-- ==== Sys2Proof/Word.lean ====
section
/-! DEFINITION. The words of the hall ring and the samples the part computes with. -/

namespace Sys2Proof

/-- A 32-bit word of the ring, of a payload or of the scene store (R200, R202). -/
abbrev Word := BitVec 32

/-- A sample. R1 makes it a signed integer; its range is a property (`fullScale`), because sums and
products leave the range before they are brought back. -/
abbrev Sample := Int

end Sys2Proof
end

