-- ==== Sys2Proof/Config.lean ====
section
/-! DEFINITION. What the manual fixes as numbers, and the free values it leaves open.

The opaque constants have no body: no proof can learn a value of one, and a statement holds whatever
they are. Each is applied to the plain counter `State.draws`, which every frame period advances. -/

namespace Sys2Proof.Config

/-- The largest sample (R1). -/
def sampleTop : Int := 8388607

/-- The smallest sample (R1). -/
def sampleBottom : Int := -8388608

/-- The attenuation that is silence (R2). -/
def silence : Nat := 1536

/-- Frame numbers run from 0 to one less than this and wrap (R17, R19). -/
def frameNumbers : Nat := 16777216

/-- The furthest ahead a COMMIT AT or an ARM AT may name a frame (R134, R175). -/
def farthest : Nat := 65535

/-- A counter holds here instead of wrapping (R36, R199). -/
def counterTop : Nat := 65535

/-- The number of words of the delay pool (R55). -/
def poolWords : Nat := 262144

/-- The words one clearing frame period zeroes (R77). -/
def clearStride : Nat := 4096

/-- The clearing frame periods of one clearing (R78). -/
def clearPeriods : Nat := 64

/-- The good frames that complete an acquisition (R24). -/
def acquireRun : Nat := 48

/-- The good frames in sequence that forgive the errors (R25). -/
def forgiveRun : Nat := 1024

/-- The oscillator frame periods without an arrival that are signal loss (R21). -/
def lossGap : Nat := 4

/-- The durations of the store's operations in blocks (R159). -/
def eraseBlocks : Nat := 300
def writeBlocks : Nat := 90
def recallBlocks : Nat := 12
def rewriteBlocks : Nat := 375

/-- FREE VALUE (log 2). Which of the admissible orders the work of a block boundary takes in a frame
period: the manual orders the steps of one block and leaves the blocks among themselves open. -/
opaque taskOrder : Nat → Nat

/-- FREE VALUE (log 2). The point of the frame period at which its cell, or its lock loss, is taken. -/
opaque eventPoint : Nat → Nat

/-- FREE VALUE (log 3). R44: whether, at a block boundary, the setting of an admitted input's current
is taken before that boundary's ramp step. -/
opaque settingFirst : Nat → Nat → Bool

/-- FREE VALUE (log 4). R65: whether the line writes of a frame period in which B changes are taken
before the change. -/
opaque writesBeforeBackoff : Nat → Bool

/-- FREE VALUE (log 5). R116: whether a relock at a block boundary is taken before the boundary's work. -/
opaque relockFirst : Nat → Bool

/-- FREE VALUE (log 18). R51: whether an install is taken before the input samples of its frame period. -/
opaque installFirst : Nat → Bool

/-- FREE VALUE (log 6). Whether the memory passes the verification that ends an ERASE, a WRITE or a
start-record rewrite (R160, R161, R165). -/
opaque verifies : Nat → Bool

/-- FREE VALUE (log 6). What a word of the nonvolatile memory holds after a failed verification. -/
opaque failedWord : Nat → Nat → Word

/-- FREE VALUE (log 7). Whether an operation that was cut short had reached a word (R157). -/
opaque reached : Nat → Nat → Bool

/-- FREE VALUE (log 7). Which of R157's three outcomes a start-record rewrite cut short leaves. -/
opaque rewriteCut : Nat → Nat

end Sys2Proof.Config
end

