-- ==== Sys2Proof/Syntax.lean ====
section
/-! DEFINITION. The commands of the part: one constructor for each row of spec/opcode_table.json.

A row is a command from outside (an arrival, a pin, a request of the ring controller) or an event of
the part itself (an admission, a detection, a completion). Channel numbers that the part itself
produces are `Fin`; numbers a request carries are the `Nat` codes of its cell, which may be out of
range and are then answered so (R200). -/

namespace Sys2Proof

/-- A ring frame as its 148 words, word 0 first (R17, R200). -/
abbrev Frame := List Word

/-- What a REQUEST cell carries beside its kind: the target node, the broadcast flag and the tag (R180). -/
structure Header where
  target    : Nat
  broadcast : Bool
  tag       : Nat
deriving DecidableEq, Repr

/-- The mode of a COMMIT (R134). -/
inductive CommitMode where
  | auto
  | cut
deriving DecidableEq, Repr

/-- The timing of a COMMIT (R134). -/
inductive Timing where
  | now
  | atFrame (f : Nat)
deriving DecidableEq, Repr

/-- A request as the Management Handler executes it (R180, R188). The numbers are the codes carried. -/
inductive Request where
  | aim (view table index step : Nat)
  | wherePointer
  | put (count : Nat) (payload : List Word)
  | take (count : Nat)
  | status
  | badCell (kind : Nat)
  | commit (mode : CommitMode) (timing : Timing)
  | cancel
  | copy
  | recallSector (sector : Nat)
  | write (sector : Nat)
  | erase (sector : Nat)
  | protect (sector : Nat)
  | unprotect (sector : Nat)
  | setStart (sector : Nat)
  | guardReset (output : Nat)
  | fire (kind target level length : Nat)
  | stopGenerator
  | arm (pointKind pointNumber trigger length frame : Nat)
  | stopCapture
  | clearFlags (mask : Nat)
  | resetNode
deriving DecidableEq, Repr

/-- The commands: one constructor for each row of the table. -/
inductive Instr where
  -- the part's surroundings
  | powerOnReset (straps : Nat)
  | resetPinAssert
  | arrival (frame : Frame)
  | oscillatorFramePeriod
  | signalLoss
  -- events of the Ring Interface
  | lockAcquired
  | goodRunComplete
  | lockLoss
  -- events of the other blocks
  | inputAdmission (input : Fin 24)
  | inputDrop (input : Fin 24)
  | burstEnd
  | captureStart
  | captureComplete (value : Sample)
  | guardDetection (output : Fin 32)
  | guardHoldExpiry (output : Fin 32)
  | guardRecoveryStep (output : Fin 32)
  | backoffIntervalExpiry
  | decayTake
  | decayCompletion
  | commitExecution
  | clearingStart
  | clearingComplete
  | fadeInEnd
  | eraseCompletion
  | writeCompletion
  | recallCompletion
  | startRecordRewriteEnd
  -- requests
  | aim (header : Header) (view table index step : Nat)
  | wherePointer (header : Header)
  | put (header : Header) (count : Nat) (payload : List Word)
  | take (header : Header) (count : Nat)
  | status (header : Header)
  | badCell (header : Header) (kind : Nat)
  | commit (header : Header) (mode : CommitMode) (timing : Timing)
  | cancel (header : Header)
  | copy (header : Header)
  | recallSector (header : Header) (sector : Nat)
  | write (header : Header) (sector : Nat)
  | erase (header : Header) (sector : Nat)
  | protect (header : Header) (sector : Nat)
  | unprotect (header : Header) (sector : Nat)
  | setStart (header : Header) (sector : Nat)
  | guardReset (header : Header) (output : Nat)
  | fire (header : Header) (kind target level length : Nat)
  | stopGenerator (header : Header)
  | arm (header : Header) (pointKind pointNumber trigger length frame : Nat)
  | stopCapture (header : Header)
  | clearFlags (header : Header) (mask : Nat)
  | resetNode (header : Header)
  -- the supply
  | powerLoss
deriving DecidableEq, Repr

end Sys2Proof
end

