-- ==== Sys2Proof/Machine/Bits.lean ====
section
/-! DEFINITION. Fields of words, samples in words, and the frame check (R200, R201). -/

namespace Sys2Proof.Machine

/-- The unsigned number in the `n` bits of a word from bit `lo` upward (R200). -/
def field (w : Word) (lo n : Nat) : Nat := w.toNat / 2 ^ lo % 2 ^ n

/-- Bit `lo` of a word. -/
def bitOf (w : Word) (lo : Nat) : Bool := field w lo 1 == 1

/-- A number placed in the `n` bits from bit `lo` upward. -/
def place (lo n x : Nat) : Nat := x % 2 ^ n * 2 ^ lo

/-- A flag placed at bit `lo`. -/
def placeBit (lo : Nat) (b : Bool) : Nat := if b then 2 ^ lo else 0

/-- A word built from the sum of its placed fields; bits no table assigns are 0 (R200). -/
def word (n : Nat) : Word := BitVec.ofNat 32 n

/-- A word holding two 16-bit fields, the first in bits 15 to 0 (R200: "a pair of fields"). -/
def pairWord (x y : Nat) : Word := word (place 0 16 x + place 16 16 y)

/-- The sample in bits 23 to 0 of a word, two's complement; bits 31 to 24 are not examined (R200). -/
def sampleOf (w : Word) : Sample :=
  let v := field w 0 24
  if v < 8388608 then (v : Int) else (v : Int) - 16777216

/-- A sample written into a word, its sign extended into bits 31 to 24 (R200). -/
def sampleWord (x : Sample) : Word := BitVec.ofInt 32 x

/-- One bit through the remainder register of the divisor x^16 + x^12 + x^5 + 1 (R201). -/
def checkBit (r b : Nat) : Nat :=
  if (r / 32768 + b) % 2 = 1 then (r * 2 % 65536) ^^^ 4129 else r * 2 % 65536

/-- One word through the register, bit 31 first (R201). -/
def checkWord (r : Nat) (w : Word) : Nat :=
  (List.range 32).foldl (fun r i => checkBit r (field w (31 - i) 1)) r

/-- The remainder over words, from all ones and not inverted (R201). -/
def check (ws : List Word) : Nat := ws.foldl checkWord 65535

/-- Word `n` of a list of words; words that are not there are 0. -/
def wordAt (ws : List Word) (n : Nat) : Word := ws.getD n 0

/-! ### The frame (R17, R200) -/

def frameNumberOf (f : Frame) : Nat := field (wordAt f 0) 0 24

def upstreamError (f : Frame) : Bool := bitOf (wordAt f 0) 24

def validMarker (f : Frame) (slot : Nat) : Bool := bitOf (wordAt f (1 + slot / 32)) (slot % 32)

def slotSample (f : Frame) (slot : Nat) : Sample := sampleOf (wordAt f (5 + slot))

/-- The 14 words of the frame's cell (R200). -/
def cellOf (f : Frame) : List Word := (f.drop 133).take 14

/-- The words the frame check covers: words 0 to 146 (R201). -/
def checkedWords (f : Frame) : List Word := f.take 147

/-- R201: the check is correct when the remainder equals bits 15 to 0 of word 147. -/
def checkCorrect (f : Frame) : Bool := check (checkedWords f) == field (wordAt f 147) 0 16

/-- A frame's class on arrival (R18). -/
inductive FrameClass where
  | good
  | flagged
  | bad
deriving DecidableEq, Repr

/-- R18: a bad frame failed its check; a flagged one passed it and carries the upstream-error flag. -/
def classify (f : Frame) : FrameClass :=
  if checkCorrect f then (if upstreamError f then .flagged else .good) else .bad

/-- The copy with its check computed anew, bits 31 to 16 of word 147 at 0 (R201). -/
def sealFrame (f : Frame) : Frame := checkedWords f ++ [word (check (checkedWords f))]

/-- The copy with the upstream-error flag set. -/
def setUpstreamError (f : Frame) : Frame := f.set 0 (wordAt f 0 ||| word (2 ^ 24))

/-- The copy with a sample in a slot and its marker set (R30, R200). -/
def writeSlot (f : Frame) (slot : Nat) (x : Sample) : Frame :=
  let m := 1 + slot / 32
  (f.set (5 + slot) (sampleWord x)).set m (wordAt f m ||| word (2 ^ (slot % 32)))

/-- The copy with another cell in its cell slot. -/
def withCell (f : Frame) (cell : List Word) : Frame := f.take 133 ++ cell ++ f.drop 147

end Sys2Proof.Machine
end

