-- ==== Sys2Proof/WellFormed.lean ====
section
/-! DEFINITION. Which terms are commands that the ring, the pins or the part itself can give.

R200: a value too large for a field's width cannot be carried at all. Each check is the width of a
field of the cell, the number of words of a frame, or the range of a sample. -/

namespace Sys2Proof

/-- A number fits a field of `n` bits. -/
def fits (n x : Nat) : Bool := decide (x < 2 ^ n)

/-- Full scale (R1). -/
def fullScale (x : Sample) : Bool := decide (Config.sampleBottom ≤ x ∧ x ≤ Config.sampleTop)

/-- The header's fields fit their bits: a target of 4 bits and a tag of 8 (R200). -/
def Header.wellFormed (h : Header) : Bool := fits 4 h.target && fits 8 h.tag

/-- A timing's frame number fits 24 bits (R200). -/
def Timing.wellFormed : Timing → Bool
  | .now => true
  | .atFrame f => fits 24 f

/-- The parameters of a request fit the bits its layout gives them (R200). -/
def Request.wellFormed : Request → Bool
  | .aim view table index step => fits 1 view && fits 8 table && fits 13 index && fits 1 step
  | .wherePointer => true
  | .put count payload => fits 8 count && decide (payload.length = 12)
  | .take count => fits 8 count
  | .status => true
  | .badCell kind => fits 4 kind
  | .commit _ timing => timing.wellFormed
  | .cancel => true
  | .copy => true
  | .recallSector n => fits 8 n
  | .write n => fits 8 n
  | .erase n => fits 8 n
  | .protect n => fits 8 n
  | .unprotect n => fits 8 n
  | .setStart n => fits 8 n
  | .guardReset n => fits 8 n
  | .fire kind target level length => fits 8 kind && fits 8 target && fits 16 level && fits 32 length
  | .stopGenerator => true
  | .arm kind number trigger length frame =>
      fits 8 kind && fits 8 number && fits 8 trigger && fits 16 length && fits 24 frame
  | .stopCapture => true
  | .clearFlags mask => fits 32 mask
  | .resetNode => true

/-- The request a command stands for, with its header; an event of the part stands for none. -/
def Instr.request? : Instr → Option (Header × Request)
  | .powerOnReset _ | .resetPinAssert | .arrival _ | .oscillatorFramePeriod | .signalLoss => none
  | .lockAcquired | .goodRunComplete | .lockLoss | .inputAdmission _ | .inputDrop _ => none
  | .burstEnd | .captureStart | .captureComplete _ => none
  | .guardDetection _ | .guardHoldExpiry _ | .guardRecoveryStep _ | .backoffIntervalExpiry => none
  | .decayTake | .decayCompletion | .commitExecution | .clearingStart | .clearingComplete => none
  | .fadeInEnd | .eraseCompletion | .writeCompletion | .recallCompletion => none
  | .startRecordRewriteEnd | .powerLoss => none
  | .aim h v t i st => some (h, .aim v t i st)
  | .wherePointer h => some (h, .wherePointer)
  | .put h c p => some (h, .put c p)
  | .take h c => some (h, .take c)
  | .status h => some (h, .status)
  | .badCell h k => some (h, .badCell k)
  | .commit h m t => some (h, .commit m t)
  | .cancel h => some (h, .cancel)
  | .copy h => some (h, .copy)
  | .recallSector h n => some (h, .recallSector n)
  | .write h n => some (h, .write n)
  | .erase h n => some (h, .erase n)
  | .protect h n => some (h, .protect n)
  | .unprotect h n => some (h, .unprotect n)
  | .setStart h n => some (h, .setStart n)
  | .guardReset h n => some (h, .guardReset n)
  | .fire h k t l n => some (h, .fire k t l n)
  | .stopGenerator h => some (h, .stopGenerator)
  | .arm h k n t l f => some (h, .arm k n t l f)
  | .stopCapture h => some (h, .stopCapture)
  | .clearFlags h m => some (h, .clearFlags m)
  | .resetNode h => some (h, .resetNode)

/-- A command that can be given. A frame has 148 words (R200), the straps are four (R203), and a
recorded value is a sample within full scale (R6, R174). -/
def Instr.wellFormed (c : Instr) : Bool :=
  match c.request? with
  | some (h, r) => h.wellFormed && r.wellFormed
  | none =>
    match c with
    | .powerOnReset straps => fits 4 straps
    | .arrival frame => decide (frame.length = 148)
    | .captureComplete value => fullScale value
    | _ => true

end Sys2Proof
end

