-- ==== Sys2Proof/Decode.lean ====
section
/-! DEFINITION. Reading a REQUEST cell (R180, R188, R190, R200).

No row of spec/opcode_table.json gives bits, so no word of the table spells a command
(`decodeTableWord`). The part's own wire format of a request is the cell, read by `decodeCell`. -/

namespace Sys2Proof

open Sys2Proof.Machine

/-- The command a word of the table spells. The rows of the table give no bits: none ever does. -/
def decodeTableWord (_nbits _w : Nat) : Option Instr := none

/-- The header of a REQUEST cell: target node, broadcast flag and tag of word 0 (R200). -/
def decodeHeader (cell : List Word) : Header where
  target := field (wordAt cell 0) 4 4
  broadcast := bitOf (wordAt cell 0) 2
  tag := field (wordAt cell 0) 24 8

/-- The operation of an ACT by its code, with its arguments from the payload; an operation with no code
in the catalogue makes the cell malformed (R188, R190, R200). -/
def decodeAct (op : Nat) (payload : List Word) : Request :=
  let w0 := wordAt payload 0
  let w1 := wordAt payload 1
  let w2 := wordAt payload 2
  match op with
  | 0 => .commit (if bitOf w0 0 then .cut else .auto) (if bitOf w0 1 then .atFrame (field w1 0 24) else .now)
  | 1 => .cancel
  | 2 => .copy
  | 3 => .recallSector (field w0 0 8)
  | 4 => .write (field w0 0 8)
  | 5 => .erase (field w0 0 8)
  | 6 => .protect (field w0 0 8)
  | 7 => .unprotect (field w0 0 8)
  | 8 => .setStart (field w0 0 8)
  | 9 => .guardReset (field w0 0 8)
  | 10 => .fire (field w0 0 8) (field w0 8 8) (field w1 0 16) w2.toNat
  | 11 => .stopGenerator
  | 12 => .arm (field w0 0 8) (field w0 8 8) (field w0 16 8) (field w1 0 16) (field w2 0 24)
  | 13 => .stopCapture
  | 14 => .clearFlags w0.toNat
  | 15 => .resetNode
  | _ => .badCell 4

/-- The request of a cell by its kind code, bits 11 to 8 of word 0 (R200). -/
def decodeRequest (cell : List Word) : Request :=
  let w1 := wordAt cell 1
  match field (wordAt cell 0) 8 4 with
  | 0 => .aim (field w1 0 1) (field w1 8 8) (field w1 16 13) (field w1 1 1)
  | 1 => .wherePointer
  | 2 => .put (field w1 0 8) (cell.drop 2)
  | 3 => .take (field w1 0 8)
  | 4 => decodeAct (field w1 0 8) (cell.drop 2)
  | 5 => .status
  | k => .badCell k

/-- The kind of a cell: 0 IDLE, 1 REQUEST, 2 ANSWER, 3 NOTICE (R200). -/
def cellKind (cell : List Word) : Nat := field (wordAt cell 0) 0 2

/-- A REQUEST cell with its header; a cell of another kind is none. -/
def decodeCell (cell : List Word) : Option (Header × Request) :=
  if cellKind cell = 1 then some (decodeHeader cell, decodeRequest cell) else none

/-- The code of a request kind (R200). -/
def Request.kindCode : Request → Nat
  | .aim .. => 0
  | .wherePointer => 1
  | .put .. => 2
  | .take .. => 3
  | .status => 5
  | .badCell k => k
  | .commit .. | .cancel | .copy | .recallSector _ | .write _ | .erase _ | .protect _ | .unprotect _ => 4
  | .setStart _ | .guardReset _ | .fire .. | .stopGenerator | .arm .. | .stopCapture => 4
  | .clearFlags _ | .resetNode => 4

/-- The parameter word and the payload of a request's cell, from the layouts of R200. A malformed cell
is written with an operation code that the catalogue lacks, or with no parameters. -/
def encodeParameters : Request → Word × List Word
  | .aim view table index step =>
      (word (place 0 1 view + place 1 1 step + place 8 8 table + place 16 13 index), [])
  | .wherePointer => (0, [])
  | .put count payload => (word (place 0 8 count), payload)
  | .take count => (word (place 0 8 count), [])
  | .status => (0, [])
  | .badCell _ => (word 255, [])
  | .commit mode timing =>
      let cut := placeBit 0 (mode == .cut)
      match timing with
      | .now => (word 0, [word cut])
      | .atFrame f => (word 0, [word (cut + placeBit 1 true), word (place 0 24 f)])
  | .cancel => (word 1, [])
  | .copy => (word 2, [])
  | .recallSector n => (word 3, [word (place 0 8 n)])
  | .write n => (word 4, [word (place 0 8 n)])
  | .erase n => (word 5, [word (place 0 8 n)])
  | .protect n => (word 6, [word (place 0 8 n)])
  | .unprotect n => (word 7, [word (place 0 8 n)])
  | .setStart n => (word 8, [word (place 0 8 n)])
  | .guardReset n => (word 9, [word (place 0 8 n)])
  | .fire kind target level length =>
      (word 10, [word (place 0 8 kind + place 8 8 target), word (place 0 16 level), word length])
  | .stopGenerator => (word 11, [])
  | .arm kind number trigger length frame =>
      (word 12, [word (place 0 8 kind + place 8 8 number + place 16 8 trigger), word (place 0 16 length),
        word (place 0 24 frame)])
  | .stopCapture => (word 13, [])
  | .clearFlags mask => (word 14, [word mask])
  | .resetNode => (word 15, [])

/-- A list of words brought to 12 with zeros: a cell's payload (R200). -/
def payload12 (ws : List Word) : List Word := (ws ++ List.replicate 12 0).take 12

/-- The REQUEST cell of a request (R200). -/
def encodeCell (h : Header) (r : Request) : List Word :=
  let w0 := word (place 0 2 1 + placeBit 2 h.broadcast + place 4 4 h.target + place 8 4 r.kindCode + place 24 8 h.tag)
  w0 :: (encodeParameters r).1 :: payload12 (encodeParameters r).2

end Sys2Proof
end

