-- ==== Sys2Proof/Machine/State.lean ====
section
/-! DEFINITION. Everything the manual gives the part to hold, block by block, as plain data.

Each structure is the state of one block of the block overview. Tables are `Vector`s, the two addressed
memories (the delay pool and the scene store) and the capture words are sparse lists in canonical form.
Quantities that R8, R97, R113, R127, R133 and R159 define as functions of other state (targets, levels,
reasons of the pending lock) are not stored: Machine/Ops.lean and Machine/Flags.lean compute them. -/

namespace Sys2Proof.Machine

/-- A sparse memory: the words that differ from what an unlisted address reads as, addresses rising. -/
abbrev Cells (α : Type) := List (Nat × α)

/-! ### The Ring Interface and the node record -/

/-- The lock machine's states (R22 to R25). -/
inductive LockState where
  | unlocked
  | acquiring
  | locked
deriving DecidableEq, Repr

/-- The Ring Interface (R19 to R37). `handFront` is the set delivered two frame periods before the next
frame period, `handBack` the one delivered one before it (R31). `gap` counts the oscillator frame
periods since the last arrival (R21). -/
structure Ring where
  lock          : LockState
  errors        : Nat
  goodRun       : Nat
  acqRun        : Nat
  acqRef        : Nat
  signal        : Bool
  gap           : Nat
  frameNumber   : Nat
  handFront     : Vector Sample 32
  handBack      : Vector Sample 32
  badFrames     : Nat
  flaggedFrames : Nat
  lockLosses    : Nat
deriving DecidableEq, Repr

/-- The notice enables: a rise and a fall enable for each of the six levels, one for each of the nine
pulses, both in the order of the notice codes (R194, R200). -/
structure Enables where
  rise  : Vector Bool 6
  fall  : Vector Bool 6
  pulse : Vector Bool 9
deriving DecidableEq, Repr

/-- The NODE record (R186). -/
structure NodeRecord where
  number    : Nat
  threshold : Nat
  enables   : Enables
deriving DecidableEq, Repr

/-! ### The banks -/

/-- The letters of the banks (R122). -/
inductive BankName where
  | a
  | b
deriving DecidableEq, Repr

/-- The sign of a line or a tap (R62, R69). -/
inductive Sign where
  | plus
  | minus
deriving DecidableEq, Repr

/-- An INPUTS record (R38). -/
structure InputRec where
  slot        : Option (Fin 128)
  attenuation : Nat
  admitCount  : Nat
  dropLimit   : Nat
deriving DecidableEq, Repr

/-- An INJECTIONS record (R64). -/
structure InjectionRec where
  input       : Option (Fin 24)
  line        : Fin 16
  attenuation : Nat
deriving DecidableEq, Repr

/-- A LINES record; `decay` and `clamp` are the two fields the Decay Calculator computes (R71, R84). -/
structure LineRec where
  base   : Nat
  length : Nat
  sign   : Sign
  time   : Nat
  decay  : Nat
  clamp  : Bool
deriving DecidableEq, Repr

/-- A TAPS record (R68). -/
structure TapRec where
  line        : Fin 16
  offset      : Nat
  sign        : Sign
  attenuation : Nat
deriving DecidableEq, Repr

/-- An OUTPUTS record (R94). -/
structure OutputRec where
  slot     : Option (Fin 128)
  firstTap : Nat
  tapCount : Nat
  trim     : Nat
  profile  : Option (Fin 4)
deriving DecidableEq, Repr

/-- A PROFILES record (R99); `samples` is the threshold as a number of samples, formed whenever the
threshold is written and held with the profile (R16). -/
structure ProfileRec where
  threshold : Nat
  samples   : Int
  sustain   : Nat
  duck      : Nat
  maximum   : Nat
  hold      : Nat
  recovery  : Nat
deriving DecidableEq, Repr

/-- The two matrix orders (R61). -/
inductive MatrixOrder where
  | four
  | sixteen
deriving DecidableEq, Repr

/-- The GLOBALS record (R123); the scene name is its character codes, 0 to 16 of them (R125). -/
structure GlobalsRec where
  order           : MatrixOrder
  riseRate        : Nat
  fallRate        : Nat
  backoffStep     : Nat
  backoffMaximum  : Nat
  backoffHold     : Nat
  backoffInterval : Nat
  name            : List Nat
deriving DecidableEq, Repr

/-- A bank: a complete set of the seven tables (R123). -/
structure Bank where
  inputs     : Vector InputRec 24
  injections : Vector InjectionRec 128
  lines      : Vector LineRec 16
  taps       : Vector TapRec 512
  outputs    : Vector OutputRec 32
  profiles   : Vector ProfileRec 4
  globals    : GlobalsRec
deriving DecidableEq, Repr

/-! ### The Input Stage -/

/-- The admission states (R39). -/
inductive AdmissionState where
  | unbound
  | absent
  | qualifying
  | admitted
deriving DecidableEq, Repr

/-- One input of the Input Stage with its invalid-sample counter (R39, R54). -/
structure InputUnit where
  state      : AdmissionState
  qualify    : Nat
  invalidRun : Nat
  current    : Nat
  invalid    : Nat
deriving DecidableEq, Repr

/-! ### The Reverberation Core -/

/-- The Reverberation Core (R55 to R82). `applied` and `lastEnd` are the fields of LINE_STATE that keep
e_j of the last frame period computed and y_j of the last frame period (R82). -/
structure Reverb where
  pool             : Cells Sample
  position         : Vector Nat 16
  injectionCurrent : Vector Nat 128
  lineCurrent      : Vector Nat 16
  tapCurrent       : Vector Nat 512
  lineClips        : Vector Nat 16
  applied          : Vector Nat 16
  lastEnd          : Vector Sample 16
  clearing         : Bool
  clearCount       : Nat
deriving DecidableEq, Repr

/-! ### The Decay Calculator -/

/-- The entry in progress with the length and time it read (R85). -/
structure DecayEntry where
  bank   : BankName
  line   : Fin 16
  length : Nat
  time   : Nat
deriving DecidableEq, Repr

/-- The Decay Calculator: the recompute queue, oldest first, and the entry in progress (R85). -/
structure Decay where
  queue   : List (BankName × Fin 16)
  current : Option DecayEntry
deriving DecidableEq, Repr

/-! ### The Output Stage -/

/-- The states of a guard (R101). -/
inductive GuardState where
  | watch
  | ducked
  | recovering
deriving DecidableEq, Repr

/-- The guard record of an output (R101). -/
structure Guard where
  state    : GuardState
  g        : Nat
  count    : Nat
  hold     : Nat
  recovery : Nat
deriving DecidableEq, Repr

/-- One output of the Output Stage (R95 to R103, R15). -/
structure OutputUnit where
  current     : Nat
  runningPeak : Nat
  lastPeak    : Nat
  guard       : Guard
  clips       : Nat
deriving DecidableEq, Repr

/-- The backoff controller (R109). -/
structure Backoff where
  level    : Nat
  hold     : Nat
  interval : Nat
deriving DecidableEq, Repr

/-! ### The Scene Engine -/

/-- The engine's states (R132). -/
inductive EngineState where
  | steady
  | scheduled
  | fadeOut
  | clearing
  | fadeIn
deriving DecidableEq, Repr

/-- The operation under way, with the mode of a COMMIT (R132). -/
inductive Operation where
  | none
  | commit (mode : CommitMode)
  | reset
deriving DecidableEq, Repr

/-- The Scene Engine (R132). -/
structure Engine where
  state     : EngineState
  operation : Operation
  scheduled : Option Nat
  owed      : Bool
  quiet     : Nat
deriving DecidableEq, Repr

/-! ### The Scene Store -/

/-- The states of a sector (R155). -/
inductive SectorState where
  | empty
  | valid
  | failed
  | corrupt
deriving DecidableEq, Repr

/-- The states of the store (R159). -/
inductive StoreState where
  | idle
  | erasing
  | writing
  | recalling
  | eraseSuspended
  | updating
deriving DecidableEq, Repr

/-- The start record: the start sector and the protection list (R156). -/
structure StartRecord where
  start    : Option (Fin 16)
  guarded  : Vector Bool 16
deriving DecidableEq, Repr

/-- The seven bank tables (R123). -/
inductive BankTable where
  | inputs
  | injections
  | lines
  | taps
  | outputs
  | profiles
  | globals
deriving DecidableEq, Repr

/-- An amendment record; `sector` none stands for ANY (R166). -/
structure Amendment where
  inUse  : Bool
  sector : Option (Fin 16)
  table  : BankTable
  index  : Nat
  field  : Nat
  value  : Nat
deriving DecidableEq, Repr

/-- The Scene Store (R155 to R168). `memory` and `startMemory` are the nonvolatile memory, where an
unlisted word reads as erased (R202). `image` is the image an operation took at its acceptance,
`newRecord` the record a rewrite is to leave, `startUp` marks the start-up recall (R158). -/
structure Store where
  memory      : Vector (Cells Word) 16
  startMemory : Cells Word
  sectors     : Vector SectorState 16
  record      : StartRecord
  state       : StoreState
  sector      : Option (Fin 16)
  count       : Nat
  image       : List Word
  newRecord   : Option StartRecord
  suspended   : Option (Fin 16 × Nat)
  startUp     : Bool
  amendments  : Vector Amendment 8
deriving DecidableEq, Repr

/-! ### The Test Generator and the Capture Buffer -/

/-- The kinds of burst (R169). -/
inductive BurstKind where
  | impulse
  | noise
deriving DecidableEq, Repr

/-- What an accepted FIRE begins (R171); `seed` says that it found READY and so seeds the noise state. -/
structure Burst where
  kind   : BurstKind
  target : Fin 32
  level  : Nat
  length : Nat
  seed   : Bool
deriving DecidableEq, Repr

/-- The Test Generator (R169). `next` is the burst of a FIRE taken before the generator's work of its
frame period: it begins at the end of that frame period (R171). -/
structure Generator where
  running   : Bool
  kind      : BurstKind
  target    : Fin 32
  level     : Nat
  remaining : Nat
  first     : Bool
  noise     : Nat
  next      : Option Burst
deriving DecidableEq, Repr

/-- The states of the capture (R174). -/
inductive CaptureState where
  | idle
  | armed
  | running
  | done
deriving DecidableEq, Repr

/-- The points of the capture (R174). -/
inductive CapturePoint where
  | input (i : Fin 24)
  | line (j : Fin 16)
  | output (m : Fin 32)
  | slot (n : Fin 128)
deriving DecidableEq, Repr

/-- The triggers of the capture (R175). -/
inductive CaptureTrigger where
  | immediate
  | withGenerator
  | atFrame
deriving DecidableEq, Repr

/-- The Capture Buffer (R174). `triggered` says that a FIRE was accepted after a WITH_GENERATOR ARM (R176). -/
structure Capture where
  state     : CaptureState
  point     : CapturePoint
  trigger   : CaptureTrigger
  scheduled : Option Nat
  wanted    : Nat
  captured  : Nat
  words     : Cells Sample
  triggered : Bool
deriving DecidableEq, Repr

/-! ### The Management Handler and the Notice Unit -/

/-- The views (R182). -/
inductive View where
  | active
  | pending
deriving DecidableEq, Repr

/-- The fifteen tables (R182). -/
inductive TableName where
  | bank (t : BankTable)
  | amendments
  | node
  | inputState
  | lineState
  | outputState
  | counters
  | capture
  | sectors
deriving DecidableEq, Repr

/-- The management pointer (R182). -/
structure Pointer where
  view  : View
  table : TableName
  index : Nat
  step  : Nat
deriving DecidableEq, Repr

/-- The ten result codes. -/
inductive ResultCode where
  | done
  | clamped
  | busy
  | locked
  | refused
  | range
  | inconsistent
  | guarded
  | nothing
  | late
deriving DecidableEq, Repr

/-- An ANSWER (R180): `detail` is the failing table and index of INCONSISTENT, none otherwise. -/
structure Answer where
  node    : Nat
  tag     : Nat
  kind    : Nat
  result  : ResultCode
  count   : Nat
  detail  : Option (Nat × Nat)
  payload : List Word
deriving DecidableEq, Repr

/-- The fifteen kinds of notice, six levels and nine pulses (R192). -/
inductive NoticeKind where
  | ringLocked
  | inputMissing
  | guardActive
  | backoffActive
  | sceneBusy
  | storeBusy
  | commitDone
  | commitCancelled
  | storeDone
  | storeFailed
  | captureDone
  | guardLimit
  | clip
  | decayClamped
  | badCell
deriving DecidableEq, Repr

/-- The last edge of a queue entry (R195). -/
inductive Edge where
  | none
  | rise
  | fall
deriving DecidableEq, Repr

/-- An entry of the notice queue (R195). -/
structure NoticeEntry where
  kind  : NoticeKind
  first : Nat
  count : Nat
  edge  : Edge
deriving DecidableEq, Repr

/-- The present state of a kind, as a NOTICE cell carries it (R196). -/
inductive PresentState where
  | low
  | high
  | none
deriving DecidableEq, Repr

/-- The Notice Unit: the latched flags by notice code and the queue, oldest first (R192, R195). -/
structure Notices where
  flags : Vector Bool 15
  queue : List NoticeEntry
deriving DecidableEq, Repr

/-- What the node has put on the ring out port. `answer` and `notice` are what the cell of the frame
period carries of this node's work, `frame` is the last outgoing copy (R30, R32, R34, R35). -/
structure Outgoing where
  answer : Option Answer
  notice : Option (NoticeEntry × PresentState)
  frame  : Option Frame
deriving DecidableEq, Repr

/-- The model's own marks of the present frame period. `early`: its per-sample work is still to come.
`store`, `capture`, `clear`: a store operation was accepted or resumed by a held recall, a capture armed, a
clearing started in it (R159, R164, R176, R76). `missing`: while the frame period's edge of INPUT_MISSING is still to be reported, the level
as the frame period found it (R53). `backoff`: B as it stood when the frame period began (R65). -/
structure Marks where
  early   : Bool
  store   : Bool
  capture : Bool
  clear   : Bool
  missing : Option Bool
  backoff : Nat
deriving DecidableEq, Repr

/-- The state of the part. `powered` and `resetPin` are the supply and the pin; `started` is set by the
first frame period after power-on; `draws` counts frame periods and feeds the free values; `pending` is
the queue of commands that wait, first in, first out. -/
structure State where
  powered  : Bool
  resetPin : Bool
  started  : Bool
  ring     : Ring
  node     : NodeRecord
  inputs   : Vector InputUnit 24
  reverb   : Reverb
  decay    : Decay
  outputs  : Vector OutputUnit 32
  backoff  : Backoff
  active   : BankName
  bankA    : Bank
  bankB    : Bank
  engine   : Engine
  store    : Store
  gen      : Generator
  capture  : Capture
  pointer  : Pointer
  badCells : Nat
  notices  : Notices
  out      : Outgoing
  marks    : Marks
  draws    : Nat
  pending  : List Instr
deriving DecidableEq, Repr

/-- The reasons of a fault. No command of this part faults: the manual gives every one of them an
effect or says that it has none, so there is no constructor (safe: nothing stops the machine). -/
inductive Fault where
deriving DecidableEq, Repr

/-- The reasons of a refusal. -/
inductive Refusal where
  /-- Raised by `exec` alone, for a row of the table that has no meaning yet (safe: the model stops). -/
  | notModelled (mnemonic : String)
deriving DecidableEq, Repr

/-! ### Reset -/

/-- The silence bank: every field at its default (R123). -/
def silenceBank : Bank where
  inputs := Vector.replicate 24 ⟨none, 1536, 48, 4⟩
  injections := Vector.replicate 128 ⟨none, 0, 1536⟩
  lines := Vector.replicate 16 ⟨0, 0, .plus, 2000, 1536, false⟩
  taps := Vector.replicate 512 ⟨0, 1, .plus, 1536⟩
  outputs := Vector.replicate 32 ⟨none, 0, 0, 0, none⟩
  profiles := Vector.replicate 4 ⟨48, 5938687, 8, 48, 384, 375, 75⟩
  globals := ⟨.sixteen, 4, 32, 16, 192, 750, 150, []⟩

/-- The guard record of a guard in WATCH after a reset of it (R107). -/
def watchGuard : Guard := ⟨.watch, 0, 0, 0, 0⟩

/-- The start record's defaults (R156). -/
def defaultRecord : StartRecord := ⟨none, Vector.replicate 16 false⟩

/-- The amendment record's defaults (R166). -/
def defaultAmendment : Amendment := ⟨false, none, .inputs, 0, 0, 0⟩

/-- The generator after power-on and warm reset (R169). -/
def idleGenerator : Generator := ⟨false, .impulse, 0, 1536, 0, false, 1, none⟩

/-- The pointer after power-on and warm reset (R182). -/
def homePointer : Pointer := ⟨.pending, .bank .inputs, 0, 1⟩

/-- The part right after power-on reset with its nonvolatile memory erased and its straps at 0. An erased
start record fails its check (R202), so the scan has taken the defaults and reported STORE_FAILED (R157):
that flag stands latched (R197). Every other field is the power-on value of R37, R39, R80, R93, R119,
R122, R132, R169, R174, R182, R186 and R197. -/
def State.reset : State where
  powered := true
  resetPin := false
  started := false
  ring :=
    { lock := .unlocked, errors := 0, goodRun := 0, acqRun := 0, acqRef := 0, signal := false, gap := 0,
      frameNumber := 0, handFront := Vector.replicate 32 0, handBack := Vector.replicate 32 0,
      badFrames := 0, flaggedFrames := 0, lockLosses := 0 }
  node := ⟨0, 4, ⟨Vector.replicate 6 false, Vector.replicate 6 false, Vector.replicate 9 false⟩⟩
  inputs := Vector.replicate 24 ⟨.unbound, 0, 0, 1536, 0⟩
  reverb :=
    { pool := [], position := Vector.replicate 16 0, injectionCurrent := Vector.replicate 128 1536,
      lineCurrent := Vector.replicate 16 1536, tapCurrent := Vector.replicate 512 1536,
      lineClips := Vector.replicate 16 0, applied := Vector.replicate 16 1536,
      lastEnd := Vector.replicate 16 0, clearing := false, clearCount := 0 }
  decay := ⟨[], none⟩
  outputs := Vector.replicate 32 ⟨1536, 0, 0, watchGuard, 0⟩
  backoff := ⟨0, 0, 0⟩
  active := .a
  bankA := silenceBank
  bankB := silenceBank
  engine := ⟨.steady, .none, none, false, 2⟩
  store :=
    { memory := Vector.replicate 16 [], startMemory := [], sectors := Vector.replicate 16 .empty,
      record := defaultRecord, state := .idle, sector := none, count := 0, image := [],
      newRecord := none, suspended := none, startUp := false,
      amendments := Vector.replicate 8 defaultAmendment }
  gen := idleGenerator
  capture := ⟨.idle, .input 0, .immediate, none, 1, 0, [], false⟩
  pointer := homePointer
  badCells := 0
  notices := ⟨(Vector.replicate 15 false).set 9 true, []⟩
  out := ⟨none, none, none⟩
  marks := ⟨false, false, false, false, none, 0⟩
  draws := 0
  pending := []

end Sys2Proof.Machine
end

