-- ==== Sys2Proof/Machine/Numbers.lean ====
section
/-! DEFINITION. The arithmetic of the chapter Numbers, Gains and Ramps: F(a), rnd(), sat(), composites,
ramp steps and guard thresholds (R1 to R16). -/

namespace Sys2Proof.Machine

/-! ### The factor table (R3)

The part holds F as a fixed table of 1,537 entries: here 24 rows of 64 and F(1536). -/

/-- F(a) for a from 0 to 63. -/
def factorRow0 : List Nat :=
  [65536, 65066, 64600, 64136, 63677, 63220, 62767, 62317, 61870, 61426, 60986, 60549, 60115, 59684, 59256, 58831,
   58409, 57990, 57574, 57162, 56752, 56345, 55941, 55540, 55142, 54746, 54354, 53964, 53577, 53193, 52812, 52433,
   52057, 51684, 51313, 50945, 50580, 50217, 49857, 49500, 49145, 48793, 48443, 48096, 47751, 47408, 47068, 46731,
   46396, 46063, 45733, 45405, 45080, 44756, 44435, 44117, 43801, 43487, 43175, 42865, 42558, 42253, 41950, 41649]

/-- F(a) for a from 64 to 127. -/
def factorRow1 : List Nat :=
  [41350, 41054, 40760, 40467, 40177, 39889, 39603, 39319, 39037, 38757, 38480, 38204, 37930, 37658, 37388, 37120,
   36854, 36589, 36327, 36067, 35808, 35551, 35296, 35043, 34792, 34543, 34295, 34049, 33805, 33563, 33322, 33083,
   32846, 32610, 32377, 32144, 31914, 31685, 31458, 31232, 31008, 30786, 30565, 30346, 30129, 29913, 29698, 29485,
   29274, 29064, 28856, 28649, 28443, 28239, 28037, 27836, 27636, 27438, 27241, 27046, 26852, 26660, 26469, 26279]

/-- F(a) for a from 128 to 191. -/
def factorRow2 : List Nat :=
  [26090, 25903, 25718, 25533, 25350, 25168, 24988, 24809, 24631, 24454, 24279, 24105, 23932, 23760, 23590, 23421,
   23253, 23086, 22921, 22756, 22593, 22431, 22270, 22111, 21952, 21795, 21639, 21483, 21329, 21177, 21025, 20874,
   20724, 20576, 20428, 20282, 20136, 19992, 19849, 19706, 19565, 19425, 19285, 19147, 19010, 18874, 18738, 18604,
   18471, 18338, 18207, 18076, 17947, 17818, 17690, 17563, 17437, 17312, 17188, 17065, 16943, 16821, 16701, 16581]

/-- F(a) for a from 192 to 255. -/
def factorRow3 : List Nat :=
  [16462, 16344, 16227, 16110, 15995, 15880, 15766, 15653, 15541, 15430, 15319, 15209, 15100, 14992, 14884, 14778,
   14672, 14566, 14462, 14358, 14255, 14153, 14052, 13951, 13851, 13752, 13653, 13555, 13458, 13361, 13266, 13171,
   13076, 12982, 12889, 12797, 12705, 12614, 12524, 12434, 12345, 12256, 12168, 12081, 11994, 11908, 11823, 11738,
   11654, 11571, 11488, 11405, 11323, 11242, 11162, 11082, 11002, 10923, 10845, 10767, 10690, 10613, 10537, 10462]

/-- F(a) for a from 256 to 319. -/
def factorRow4 : List Nat :=
  [10387, 10312, 10238, 10165, 10092, 10020, 9948, 9877, 9806, 9735, 9666, 9596, 9528, 9459, 9391, 9324,
   9257, 9191, 9125, 9060, 8995, 8930, 8866, 8802, 8739, 8677, 8614, 8553, 8491, 8431, 8370, 8310,
   8250, 8191, 8133, 8074, 8016, 7959, 7902, 7845, 7789, 7733, 7678, 7623, 7568, 7514, 7460, 7406,
   7353, 7301, 7248, 7196, 7145, 7093, 7043, 6992, 6942, 6892, 6843, 6794, 6745, 6697, 6649, 6601]

/-- F(a) for a from 320 to 383. -/
def factorRow5 : List Nat :=
  [6554, 6507, 6460, 6414, 6368, 6322, 6277, 6232, 6187, 6143, 6099, 6055, 6011, 5968, 5926, 5883,
   5841, 5799, 5757, 5716, 5675, 5634, 5594, 5554, 5514, 5475, 5435, 5396, 5358, 5319, 5281, 5243,
   5206, 5168, 5131, 5095, 5058, 5022, 4986, 4950, 4915, 4879, 4844, 4810, 4775, 4741, 4707, 4673,
   4640, 4606, 4573, 4541, 4508, 4476, 4444, 4412, 4380, 4349, 4317, 4287, 4256, 4225, 4195, 4165]

/-- F(a) for a from 384 to 447. -/
def factorRow6 : List Nat :=
  [4135, 4105, 4076, 4047, 4018, 3989, 3960, 3932, 3904, 3876, 3848, 3820, 3793, 3766, 3739, 3712,
   3685, 3659, 3633, 3607, 3581, 3555, 3530, 3504, 3479, 3454, 3429, 3405, 3380, 3356, 3332, 3308,
   3285, 3261, 3238, 3214, 3191, 3169, 3146, 3123, 3101, 3079, 3057, 3035, 3013, 2991, 2970, 2949,
   2927, 2906, 2886, 2865, 2844, 2824, 2804, 2784, 2764, 2744, 2724, 2705, 2685, 2666, 2647, 2628]

/-- F(a) for a from 448 to 511. -/
def factorRow7 : List Nat :=
  [2609, 2590, 2572, 2553, 2535, 2517, 2499, 2481, 2463, 2445, 2428, 2410, 2393, 2376, 2359, 2342,
   2325, 2309, 2292, 2276, 2259, 2243, 2227, 2211, 2195, 2179, 2164, 2148, 2133, 2118, 2102, 2087,
   2072, 2058, 2043, 2028, 2014, 1999, 1985, 1971, 1957, 1942, 1929, 1915, 1901, 1887, 1874, 1860,
   1847, 1834, 1821, 1808, 1795, 1782, 1769, 1756, 1744, 1731, 1719, 1706, 1694, 1682, 1670, 1658]

/-- F(a) for a from 512 to 575. -/
def factorRow8 : List Nat :=
  [1646, 1634, 1623, 1611, 1599, 1588, 1577, 1565, 1554, 1543, 1532, 1521, 1510, 1499, 1488, 1478,
   1467, 1457, 1446, 1436, 1426, 1415, 1405, 1395, 1385, 1375, 1365, 1356, 1346, 1336, 1327, 1317,
   1308, 1298, 1289, 1280, 1271, 1261, 1252, 1243, 1234, 1226, 1217, 1208, 1199, 1191, 1182, 1174,
   1165, 1157, 1149, 1141, 1132, 1124, 1116, 1108, 1100, 1092, 1085, 1077, 1069, 1061, 1054, 1046]

/-- F(a) for a from 576 to 639. -/
def factorRow9 : List Nat :=
  [1039, 1031, 1024, 1016, 1009, 1002, 995, 988, 981, 974, 967, 960, 953, 946, 939, 932,
   926, 919, 912, 906, 899, 893, 887, 880, 874, 868, 861, 855, 849, 843, 837, 831,
   825, 819, 813, 807, 802, 796, 790, 785, 779, 773, 768, 762, 757, 751, 746, 741,
   735, 730, 725, 720, 714, 709, 704, 699, 694, 689, 684, 679, 674, 670, 665, 660]

/-- F(a) for a from 640 to 703. -/
def factorRow10 : List Nat :=
  [655, 651, 646, 641, 637, 632, 628, 623, 619, 614, 610, 605, 601, 597, 593, 588,
   584, 580, 576, 572, 568, 563, 559, 555, 551, 547, 544, 540, 536, 532, 528, 524,
   521, 517, 513, 509, 506, 502, 499, 495, 491, 488, 484, 481, 478, 474, 471, 467,
   464, 461, 457, 454, 451, 448, 444, 441, 438, 435, 432, 429, 426, 423, 419, 416]

/-- F(a) for a from 704 to 767. -/
def factorRow11 : List Nat :=
  [414, 411, 408, 405, 402, 399, 396, 393, 390, 388, 385, 382, 379, 377, 374, 371,
   369, 366, 363, 361, 358, 356, 353, 350, 348, 345, 343, 340, 338, 336, 333, 331,
   328, 326, 324, 321, 319, 317, 315, 312, 310, 308, 306, 303, 301, 299, 297, 295,
   293, 291, 289, 286, 284, 282, 280, 278, 276, 274, 272, 270, 269, 267, 265, 263]

/-- F(a) for a from 768 to 831. -/
def factorRow12 : List Nat :=
  [261, 259, 257, 255, 254, 252, 250, 248, 246, 245, 243, 241, 239, 238, 236, 234,
   233, 231, 229, 228, 226, 224, 223, 221, 220, 218, 216, 215, 213, 212, 210, 209,
   207, 206, 204, 203, 201, 200, 198, 197, 196, 194, 193, 191, 190, 189, 187, 186,
   185, 183, 182, 181, 179, 178, 177, 176, 174, 173, 172, 171, 169, 168, 167, 166]

/-- F(a) for a from 832 to 895. -/
def factorRow13 : List Nat :=
  [165, 163, 162, 161, 160, 159, 158, 157, 155, 154, 153, 152, 151, 150, 149, 148,
   147, 146, 145, 144, 143, 142, 141, 140, 139, 138, 137, 136, 135, 134, 133, 132,
   131, 130, 129, 128, 127, 126, 125, 124, 123, 123, 122, 121, 120, 119, 118, 117,
   117, 116, 115, 114, 113, 112, 112, 111, 110, 109, 108, 108, 107, 106, 105, 105]

/-- F(a) for a from 896 to 959. -/
def factorRow14 : List Nat :=
  [104, 103, 102, 102, 101, 100, 99, 99, 98, 97, 97, 96, 95, 95, 94, 93,
   93, 92, 91, 91, 90, 89, 89, 88, 87, 87, 86, 86, 85, 84, 84, 83,
   83, 82, 81, 81, 80, 80, 79, 78, 78, 77, 77, 76, 76, 75, 75, 74,
   74, 73, 72, 72, 71, 71, 70, 70, 69, 69, 68, 68, 67, 67, 66, 66]

/-- F(a) for a from 960 to 1023. -/
def factorRow15 : List Nat :=
  [66, 65, 65, 64, 64, 63, 63, 62, 62, 61, 61, 61, 60, 60, 59, 59,
   58, 58, 58, 57, 57, 56, 56, 56, 55, 55, 54, 54, 54, 53, 53, 52,
   52, 52, 51, 51, 51, 50, 50, 49, 49, 49, 48, 48, 48, 47, 47, 47,
   46, 46, 46, 45, 45, 45, 44, 44, 44, 43, 43, 43, 43, 42, 42, 42]

/-- F(a) for a from 1024 to 1087. -/
def factorRow16 : List Nat :=
  [41, 41, 41, 40, 40, 40, 40, 39, 39, 39, 38, 38, 38, 38, 37, 37,
   37, 37, 36, 36, 36, 36, 35, 35, 35, 35, 34, 34, 34, 34, 33, 33,
   33, 33, 32, 32, 32, 32, 31, 31, 31, 31, 31, 30, 30, 30, 30, 29,
   29, 29, 29, 29, 28, 28, 28, 28, 28, 27, 27, 27, 27, 27, 26, 26]

/-- F(a) for a from 1088 to 1151. -/
def factorRow17 : List Nat :=
  [26, 26, 26, 26, 25, 25, 25, 25, 25, 24, 24, 24, 24, 24, 24, 23,
   23, 23, 23, 23, 23, 22, 22, 22, 22, 22, 22, 21, 21, 21, 21, 21,
   21, 21, 20, 20, 20, 20, 20, 20, 20, 19, 19, 19, 19, 19, 19, 19,
   18, 18, 18, 18, 18, 18, 18, 18, 17, 17, 17, 17, 17, 17, 17, 17]

/-- F(a) for a from 1152 to 1215. -/
def factorRow18 : List Nat :=
  [16, 16, 16, 16, 16, 16, 16, 16, 16, 15, 15, 15, 15, 15, 15, 15,
   15, 15, 14, 14, 14, 14, 14, 14, 14, 14, 14, 14, 13, 13, 13, 13,
   13, 13, 13, 13, 13, 13, 13, 12, 12, 12, 12, 12, 12, 12, 12, 12,
   12, 12, 11, 11, 11, 11, 11, 11, 11, 11, 11, 11, 11, 11, 11, 10]

/-- F(a) for a from 1216 to 1279. -/
def factorRow19 : List Nat :=
  [10, 10, 10, 10, 10, 10, 10, 10, 10, 10, 10, 10, 10, 9, 9, 9,
   9, 9, 9, 9, 9, 9, 9, 9, 9, 9, 9, 9, 8, 8, 8, 8,
   8, 8, 8, 8, 8, 8, 8, 8, 8, 8, 8, 8, 8, 8, 7, 7,
   7, 7, 7, 7, 7, 7, 7, 7, 7, 7, 7, 7, 7, 7, 7, 7]

/-- F(a) for a from 1280 to 1343. -/
def factorRow20 : List Nat :=
  [7, 7, 6, 6, 6, 6, 6, 6, 6, 6, 6, 6, 6, 6, 6, 6,
   6, 6, 6, 6, 6, 6, 6, 6, 6, 5, 5, 5, 5, 5, 5, 5,
   5, 5, 5, 5, 5, 5, 5, 5, 5, 5, 5, 5, 5, 5, 5, 5,
   5, 5, 5, 5, 5, 4, 4, 4, 4, 4, 4, 4, 4, 4, 4, 4]

/-- F(a) for a from 1344 to 1407. -/
def factorRow21 : List Nat :=
  [4, 4, 4, 4, 4, 4, 4, 4, 4, 4, 4, 4, 4, 4, 4, 4,
   4, 4, 4, 4, 4, 4, 4, 4, 3, 3, 3, 3, 3, 3, 3, 3,
   3, 3, 3, 3, 3, 3, 3, 3, 3, 3, 3, 3, 3, 3, 3, 3,
   3, 3, 3, 3, 3, 3, 3, 3, 3, 3, 3, 3, 3, 3, 3, 3]

/-- F(a) for a from 1408 to 1471. -/
def factorRow22 : List Nat :=
  [3, 3, 3, 3, 3, 3, 2, 2, 2, 2, 2, 2, 2, 2, 2, 2,
   2, 2, 2, 2, 2, 2, 2, 2, 2, 2, 2, 2, 2, 2, 2, 2,
   2, 2, 2, 2, 2, 2, 2, 2, 2, 2, 2, 2, 2, 2, 2, 2,
   2, 2, 2, 2, 2, 2, 2, 2, 2, 2, 2, 2, 2, 2, 2, 2]

/-- F(a) for a from 1472 to 1535. -/
def factorRow23 : List Nat :=
  [2, 2, 2, 2, 2, 2, 2, 2, 2, 2, 2, 2, 2, 1, 1, 1,
   1, 1, 1, 1, 1, 1, 1, 1, 1, 1, 1, 1, 1, 1, 1, 1,
   1, 1, 1, 1, 1, 1, 1, 1, 1, 1, 1, 1, 1, 1, 1, 1,
   1, 1, 1, 1, 1, 1, 1, 1, 1, 1, 1, 1, 1, 1, 1, 1]

/-- F(a) for a from 1536 to 1536. -/
def factorRow24 : List Nat :=
  [0]

/-- The rows of the table. -/
def factorRows : List (List Nat) :=
  [factorRow0, factorRow1, factorRow2, factorRow3, factorRow4, factorRow5, factorRow6, factorRow7] ++
  [factorRow8, factorRow9, factorRow10, factorRow11, factorRow12, factorRow13, factorRow14, factorRow15] ++
  [factorRow16, factorRow17, factorRow18, factorRow19, factorRow20, factorRow21, factorRow22, factorRow23, factorRow24]

/-- F(a), the integer multiplier of an attenuation (R3). -/
def factor (a : Nat) : Nat := (factorRows.getD (a / 64) []).getD (a % 64) 0

/-- rnd(v) = floor((v + 32,768) / 65,536) (R4). -/
def rnd (v : Int) : Int := (v + 32768) / 65536

/-- sat(v): v held at the edges of full scale (R6). -/
def sat (v : Int) : Int :=
  if Config.sampleTop < v then Config.sampleTop else if v < Config.sampleBottom then Config.sampleBottom else v

/-- A clip occurrence: an application of sat() that changes its argument (R6). -/
def clips (v : Int) : Bool := sat v != v

/-- The product of a sample and the factor of an attenuation, exact (R5). -/
def scaled (x : Int) (a : Nat) : Int := x * (factor a : Int)

/-- The composite of two attenuations (R8). -/
def composite (a b : Nat) : Nat := min (a + b) Config.silence

/-- One ramp step of a current toward its target (R10). -/
def rampStep (rise fall target current : Nat) : Nat :=
  if current < target then min (current + fall) target
  else if target < current then max (current - rise) target
  else current

/-- The magnitude of a sample as a number (R1). -/
def magnitude (x : Sample) : Nat := x.natAbs

/-- A guard threshold as a number of samples, rnd(8,388,607 × F(t)) (R16). -/
def thresholdSamples (t : Nat) : Int := rnd (scaled Config.sampleTop t)

/-- A counter's rise by 1, held at 65,535 (R36, R199). -/
def bump (n : Nat) : Nat := min (n + 1) Config.counterTop

/-- One more frame number, wrapping (R19). -/
def nextFrame (n : Nat) : Nat := (n + 1) % Config.frameNumbers

/-- The distance from frame number n ahead to F, (F − n) mod 16,777,216 (R134, R175). -/
def distance (f n : Nat) : Nat := (f + (Config.frameNumbers - n % Config.frameNumbers)) % Config.frameNumbers

/-- The sum of a list of exact terms (R5). -/
def total (xs : List Int) : Int := xs.foldr (· + ·) 0

end Sys2Proof.Machine
end

