-- ==== Sys2Proof/Machine/Ops.lean ====
section
/-! DEFINITION. The named operations over tables, memories and banks that every block uses. -/

namespace Sys2Proof.Machine

/-! ### Tables -/

/-- The table with entry `i` replaced. -/
def setAt {α : Type} {n : Nat} (t : Vector α n) (i : Fin n) (a : α) : Vector α n := t.set i.val a i.isLt

/-- The table with entry `i` changed by a function. -/
def changeAt {α : Type} {n : Nat} (t : Vector α n) (i : Fin n) (f : α → α) : Vector α n := setAt t i (f t[i])

/-- The table with every entry changed by a function of its number. -/
def changeAll {α β : Type} {n : Nat} (t : Vector α n) (f : Fin n → α → β) : Vector β n :=
  Vector.ofFn (fun i => f i t[i])

/-- The numbers of a table's entries, ascending. -/
def entries (n : Nat) : List (Fin n) := List.finRange n

/-! ### Sparse memories

`d` is what an unlisted address reads as: 0 for the delay pool and the capture words (R55, R174), the
erased word for the scene store (R202). -/

/-- The word at an address. -/
def Cells.read {α : Type} (d : α) : Cells α → Nat → α
  | [], _ => d
  | (b, v) :: m, a => if a = b then v else Cells.read d m a

/-- The memory with the word at an address replaced; a word equal to `d` is not listed. -/
def Cells.write {α : Type} [DecidableEq α] (d : α) : Cells α → Nat → α → Cells α
  | [], a, x => if x = d then [] else [(a, x)]
  | (b, v) :: m, a, x =>
    if a < b then (if x = d then (b, v) :: m else (a, x) :: (b, v) :: m)
    else if a = b then (if x = d then m else (a, x) :: m)
    else (b, v) :: Cells.write d m a x

/-- The memory with the words from `lo` up to but not including `hi` brought back to `d`. -/
def Cells.clear {α : Type} (m : Cells α) (lo hi : Nat) : Cells α :=
  m.filter (fun c => !(decide (lo ≤ c.1) && decide (c.1 < hi)))

/-- The memory whose words from address `a` on are those of a list, over a memory that holds `d` there. -/
def Cells.writeList {α : Type} [DecidableEq α] (d : α) (m : Cells α) (a : Nat) : List α → Cells α
  | [] => m
  | x :: xs => Cells.writeList d (Cells.write d m a x) (a + 1) xs

/-- The canonical form: addresses strictly rising, no listed word equal to `d`. -/
def Cells.wf {α : Type} [DecidableEq α] (d : α) : Cells α → Bool
  | [] => true
  | [(_, v)] => v != d
  | (a, v) :: (b, w) :: m => v != d && decide (a < b) && Cells.wf d ((b, w) :: m)

/-- The erased word of the nonvolatile memory: all ones (R202). -/
def erasedWord : Word := 0xFFFFFFFF

/-- A read of the delay pool. Words beyond the pool do not exist: R130 keeps every region inside it
(log 8), and the memory lists none. -/
def poolRead (p : Cells Sample) (a : Nat) : Sample := Cells.read 0 p a

/-- A write of the delay pool (R55). No word beyond 262,143 exists, so none is written (log 8). -/
def poolWrite (p : Cells Sample) (a : Nat) (x : Sample) : Cells Sample :=
  if a < Config.poolWords then Cells.write 0 p a x else p

/-! ### The banks and their roles (R122) -/

/-- The other bank's letter. -/
def BankName.other : BankName → BankName
  | .a => .b
  | .b => .a

/-- The letter of the pending bank. -/
def pendingName (s : State) : BankName := s.active.other

/-- A bank by its letter. -/
def bankOf (s : State) : BankName → Bank
  | .a => s.bankA
  | .b => s.bankB

/-- The active bank. -/
def activeBank (s : State) : Bank := bankOf s s.active

/-- The pending bank. -/
def pendingBank (s : State) : Bank := bankOf s (pendingName s)

/-- The state with a bank's contents replaced. -/
def setBank (s : State) (n : BankName) (b : Bank) : State :=
  match n with
  | .a => { s with bankA := b }
  | .b => { s with bankB := b }

/-- The bank a view names by its role (R182). -/
def viewName (s : State) : View → BankName
  | .active => s.active
  | .pending => pendingName s

/-- The record of the NONE-or-number profile of an output in a bank. -/
def profileOf (b : Bank) (m : Fin 32) : Option ProfileRec := (b.outputs[m].profile).map (fun p => b.profiles[p])

/-! ### The reasons of the pending lock (R127) -/

/-- The engine reason: held in SCHEDULED, FADE_OUT and CLEARING. -/
def engineReason (s : State) : Bool :=
  match s.engine.state with
  | .scheduled | .fadeOut | .clearing => true
  | .steady | .fadeIn => false

/-- The store write reason: held while a WRITE is in progress. -/
def writeReason (s : State) : Bool := s.store.state == .writing

/-- The store recall reason: held while a RECALL is in progress, an erase suspended by it or not. -/
def recallReason (s : State) : Bool := s.store.state == .recalling || s.store.state == .eraseSuspended

/-- The pending bank is locked while one or more reasons hold. -/
def pendingLocked (s : State) : Bool := engineReason s || writeReason s || recallReason s

/-! ### The recompute queue (R85, R90, R91) -/

/-- An append of a bank and line; a pair that already waits stays where it stands. -/
def appendEntry (q : List (BankName × Fin 16)) (e : BankName × Fin 16) : List (BankName × Fin 16) :=
  if q.contains e then q else q ++ [e]

/-- The state with a bank and line appended to the recompute queue. -/
def appendRecompute (s : State) (n : BankName) (j : Fin 16) : State :=
  { s with decay := { s.decay with queue := appendEntry s.decay.queue (n, j) } }

/-- The waiting entries of a bank removed, and an entry of it in progress abandoned. -/
def dropRecomputes (s : State) (n : BankName) : State :=
  { s with decay :=
      { queue := s.decay.queue.filter (fun e => e.1 != n)
        current := s.decay.current.filter (fun e => e.bank != n) } }

/-- Whether an entry of a bank waits or is in progress (R92). -/
def recomputing (s : State) (n : BankName) : Bool :=
  s.decay.queue.any (fun e => e.1 == n) || (match s.decay.current with | some e => e.bank == n | none => false)

/-- The recompute queue length: the waiting entries and the one in progress (R85). -/
def recomputeLength (s : State) : Nat := s.decay.queue.length + s.decay.current.toList.length

/-! ### Output targets (R97) -/

/-- Fade force: every target is 1536 in FADE_OUT and CLEARING. -/
def fadeForce (s : State) : Bool := s.engine.state == .fadeOut || s.engine.state == .clearing

/-- Lock mute: every target is 1536 while the node is not LOCKED. -/
def lockMute (s : State) : Bool := s.ring.lock != .locked

/-- The target of an output; `mute` stands for lock mute. -/
def targetUnder (mute : Bool) (s : State) (m : Fin 32) : Nat :=
  let record := (activeBank s).outputs[m]
  if fadeForce s || mute || record.slot.isNone then Config.silence
  else composite record.trim s.outputs[m].guard.g

/-- The target of an output as it stands (R97). -/
def outputTarget (s : State) (m : Fin 32) : Nat := targetUnder (lockMute s) s m

/-- Every output's current is 1536 (step 5 of R98). -/
def allSilent (s : State) : Bool := (entries 32).all (fun m => s.outputs[m].current == Config.silence)

/-- Every output's current equals its target (step 5 of R98). -/
def allAtTarget (mute : Bool) (s : State) : Bool :=
  (entries 32).all (fun m => s.outputs[m].current == targetUnder mute s m)

end Sys2Proof.Machine
end

