-- ==== Sys2Proof/Machine/Flags.lean ====
section
/-! DEFINITION. The Notice Unit: latched flags, levels, edges and the notice queue (R192 to R197). -/

namespace Sys2Proof.Machine

/-- The notice code (R200). -/
def NoticeKind.code : NoticeKind → Fin 15
  | .ringLocked => 0
  | .inputMissing => 1
  | .guardActive => 2
  | .backoffActive => 3
  | .sceneBusy => 4
  | .storeBusy => 5
  | .commitDone => 6
  | .commitCancelled => 7
  | .storeDone => 8
  | .storeFailed => 9
  | .captureDone => 10
  | .guardLimit => 11
  | .clip => 12
  | .decayClamped => 13
  | .badCell => 14

/-- The six levels in the order of their codes. -/
def levelKinds : List NoticeKind := [.ringLocked, .inputMissing, .guardActive, .backoffActive, .sceneBusy, .storeBusy]

/-! ### Levels -/

/-- R53: at least one input is bound in the active bank and not ADMITTED. -/
def inputMissing (s : State) : Bool :=
  (entries 24).any (fun i => (activeBank s).inputs[i].slot.isSome && s.inputs[i].state != .admitted)

/-- The number of outputs whose guard is not in WATCH (R113). -/
def outputsNotInWatch (s : State) : Nat := (entries 32).countP (fun m => s.outputs[m].guard.state != .watch)

/-- R113: at least one output's guard is in DUCKED or RECOVERING. -/
def guardActive (s : State) : Bool := (entries 32).any (fun m => s.outputs[m].guard.state != .watch)

/-- Whether a level is high; a pulse is never. -/
def levelHigh (s : State) : NoticeKind → Bool
  | .ringLocked => s.ring.lock == .locked
  | .inputMissing => inputMissing s
  | .guardActive => guardActive s
  | .backoffActive => decide (0 < s.backoff.level)
  | .sceneBusy => s.engine.state != .steady
  | .storeBusy => s.store.state != .idle
  | .commitDone | .commitCancelled | .storeDone | .storeFailed | .captureDone => false
  | .guardLimit | .clip | .decayClamped | .badCell => false

/-- The present state a NOTICE cell carries: HIGH or LOW for a level, NONE for a pulse (R196). -/
def presentState (s : State) (k : NoticeKind) : PresentState :=
  if levelKinds.contains k then (if levelHigh s k then .high else .low) else .none

/-! ### Occurrences -/

/-- Whether an occurrence is enabled (R194). -/
def enabled (e : Enables) (k : NoticeKind) (edge : Edge) : Bool :=
  let c := k.code.val
  match edge with
  | .rise => e.rise.toList.getD c false
  | .fall => e.fall.toList.getD c false
  | .none => e.pulse.toList.getD (c - 6) false

/-- An enabled occurrence taken into the queue: an entry of its kind counts it, or a new one joins (R195). -/
def enqueue (frame : Nat) (k : NoticeKind) (edge : Edge) : List NoticeEntry → List NoticeEntry
  | [] => [⟨k, frame, 1, edge⟩]
  | e :: q =>
    if e.kind = k then { e with count := min (e.count + 1) 255, edge := edge } :: q
    else e :: enqueue frame k edge q

/-- An occurrence: it latches its flag and, where enabled, is taken into the queue (R192, R195). -/
def report (k : NoticeKind) (edge : Edge) (s : State) : State :=
  { s with notices :=
      { flags := setAt s.notices.flags k.code true
        queue :=
          if enabled s.node.enables k edge then enqueue s.ring.frameNumber k edge s.notices.queue
          else s.notices.queue } }

/-- A pulse. -/
def pulse (k : NoticeKind) (s : State) : State := report k .none s

/-- A pulse where a condition holds. -/
def pulseIf (b : Bool) (k : NoticeKind) (s : State) : State := if b then pulse k s else s

/-- INPUT_MISSING has one edge at most in a frame period, however many inputs change state in it, so inside a
frame period its edge waits for `missingEdge` (R53). -/
def edgeWaits (s : State) (k : NoticeKind) : Bool := k == .inputMissing && s.marks.missing.isSome

/-- The edge of a level that was at `was`, reported (R192). -/
def levelEdge (was : Bool) (k : NoticeKind) (s : State) : State :=
  match was, levelHigh s k with
  | false, true => report k .rise s
  | true, false => report k .fall s
  | _, _ => s

/-- The edge of one level between two states, reported in the second (R192). -/
def edgeOf (old : State) (s : State) (k : NoticeKind) : State :=
  if edgeWaits s k then s else levelEdge (levelHigh old k) k s

/-- The edges of the six levels between two states, each level at most one (R53, R113). The order of their codes,
in which they join the notice queue, is the model's choice (log 37). -/
def edges (old new : State) : State := levelKinds.foldl (edgeOf old) new

/-- The edge of INPUT_MISSING of a frame period: the level as it stands against the level the frame period
found (R53). -/
def missingEdge (s : State) : State :=
  match s.marks.missing with
  | some was => levelEdge was .inputMissing { s with marks := { s.marks with missing := none } }
  | none => s

/-- An operation with the edges it causes reported after it. That the pulses of the operation join the notice
queue before the edges of its levels is the model's choice (log 37): the rules fix the frame period alone. -/
def withEdges (f : State → State) (s : State) : State := edges s (f s)

/-- The offer of an IDLE cell: the oldest entry leaves, with the present state of its kind (R35, R196). -/
def offerIdle (s : State) : State :=
  match s.notices.queue with
  | [] => s
  | e :: q =>
    { s with
      notices := { s.notices with queue := q }
      out := { s.out with notice := some (e, presentState s e.kind) } }

/-- Every latched flag clear and the queue empty (R197). -/
def clearNotices (s : State) : State :=
  { s with notices := ⟨Vector.replicate 15 false, []⟩ }

end Sys2Proof.Machine
end

