-- ==== Sys2Proof/Machine/Operands.lean ====
section
/-! DEFINITION. Records in payloads and in stored images: how each is written into words and how a record
carried is read, refused or clamped (R124, R125, R166, R186, R200, R202). -/

namespace Sys2Proof.Machine

/-- A record read from words: none where R124 refuses it (RANGE), else the record and whether a field
was clamped. -/
abbrev Treated (α : Type) := Option (α × Bool)

/-- A magnitude brought to the nearest end of its range (R124). -/
def clampTo (lo hi x : Nat) : Nat := max lo (min x hi)

/-- An 8-bit identity code read as a number below `n`, or as NONE by the code 255; any other code is out
of range (R200). -/
def identity? (n x : Nat) : Option (Option (Fin n)) :=
  if x = 255 then some none else if h : x < n then some (some ⟨x, h⟩) else none

/-- An identity code that has no NONE. -/
def number? (n x : Nat) : Option (Fin n) := if h : x < n then some ⟨x, h⟩ else none

/-- The code of an identity field that may be NONE (R200). -/
def identityCode {n : Nat} : Option (Fin n) → Nat
  | none => 255
  | some i => i.val

/-- The code of a sign (R200). -/
def Sign.code : Sign → Nat
  | .plus => 0
  | .minus => 1

/-- A sign from its bit (R200). -/
def signOf (b : Bool) : Sign := if b then .minus else .plus

/-- The value of a matrix order, which is its code (R200). -/
def MatrixOrder.code : MatrixOrder → Nat
  | .four => 4
  | .sixteen => 16

/-- A matrix order from its value; any other is refused, not clamped (R125). -/
def matrixOrder? (x : Nat) : Option MatrixOrder :=
  if x = 4 then some .four else if x = 16 then some .sixteen else none

/-- A length is 0 or 64 to 65,536 (R124). -/
def lengthOk (x : Nat) : Bool := x == 0 || (decide (64 ≤ x) && decide (x ≤ 65536))

/-! ### Scene names (R125, R200) -/

/-- The 16 bytes of four words, byte 0 in bits 7 to 0 of the first. -/
def bytesOf (ws : List Word) : List Nat :=
  (List.range 16).map (fun i => field (wordAt ws (i / 4)) (i % 4 * 8) 8)

/-- The characters before the first byte of code 0. -/
def untilEnd (bs : List Nat) : List Nat := bs.takeWhile (· != 0)

/-- A printable character has a code from 32 to 126; another is written as "?" (R125). -/
def printable (c : Nat) : Nat := if 32 ≤ c ∧ c ≤ 126 then c else 63

/-- A name's four words, bytes after the end 0 (R200). -/
def nameWords (name : List Nat) : List Word :=
  (List.range 4).map (fun k =>
    word (place 0 8 (name.getD (4 * k) 0) + place 8 8 (name.getD (4 * k + 1) 0) +
      place 16 8 (name.getD (4 * k + 2) 0) + place 24 8 (name.getD (4 * k + 3) 0)))

/-- The name four words carry, with whether a character was replaced. -/
def nameOf (ws : List Word) : List Nat × Bool :=
  let raw := untilEnd (bytesOf ws)
  (raw.map printable, raw.map printable != raw)

/-! ### Bank records (R123 to R125, R200) -/

def encodeInput (r : InputRec) : List Word :=
  [word (place 0 8 (identityCode r.slot) + place 16 16 r.attenuation), pairWord r.admitCount r.dropLimit]

def decodeInput (ws : List Word) : Treated InputRec :=
  let w0 := wordAt ws 0
  let w1 := wordAt ws 1
  let att := field w0 16 16
  let q := field w1 0 16
  let e := field w1 16 16
  (identity? 128 (field w0 0 8)).map (fun slot =>
    (⟨slot, min att 1536, min q 255, min e 254⟩, decide (1536 < att) || decide (255 < q) || decide (254 < e)))

def encodeInjection (r : InjectionRec) : List Word :=
  [word (place 0 8 (identityCode r.input) + place 8 8 r.line.val + place 16 16 r.attenuation)]

def decodeInjection (ws : List Word) : Treated InjectionRec :=
  let w := wordAt ws 0
  let att := field w 16 16
  match identity? 24 (field w 0 8), number? 16 (field w 8 8) with
  | some input, some line => some (⟨input, line, min att 1536⟩, decide (1536 < att))
  | _, _ => none

def encodeLine (r : LineRec) : List Word :=
  [word r.base, word r.length, word (place 0 16 r.time + place 16 1 r.sign.code),
   word (place 0 16 r.decay + placeBit 16 r.clamp)]

/-- A LINES record as carried, its two computed fields included; a PUT ignores those (R124). -/
def decodeLine (ws : List Word) : Treated LineRec :=
  let base := (wordAt ws 0).toNat
  let length := (wordAt ws 1).toNat
  let time := field (wordAt ws 2) 0 16
  if decide (base < Config.poolWords) && lengthOk length then
    some (⟨base, length, signOf (bitOf (wordAt ws 2) 16), clampTo 100 20000 time,
      min (field (wordAt ws 3) 0 16) 1536, bitOf (wordAt ws 3) 16⟩, clampTo 100 20000 time != time)
  else none

def encodeTap (r : TapRec) : List Word :=
  [word r.offset, word (place 0 16 r.attenuation + place 16 8 r.line.val + place 24 1 r.sign.code)]

def decodeTap (ws : List Word) : Treated TapRec :=
  let offset := (wordAt ws 0).toNat
  let w1 := wordAt ws 1
  let att := field w1 0 16
  match number? 16 (field w1 16 8) with
  | some line =>
    if 1 ≤ offset ∧ offset ≤ 65536 then
      some (⟨line, offset, signOf (bitOf w1 24), min att 1536⟩, decide (1536 < att))
    else none
  | none => none

def encodeOutput (r : OutputRec) : List Word :=
  [word (place 0 16 r.firstTap + place 16 8 r.tapCount + place 24 8 (identityCode r.slot)),
   word (place 0 16 r.trim + place 16 8 (identityCode r.profile))]

/-- The tap count as carried, before any clamp (R185). -/
def carriedTapCount (ws : List Word) : Nat := field (wordAt ws 0) 16 8

def decodeOutput (ws : List Word) : Treated OutputRec :=
  let w0 := wordAt ws 0
  let w1 := wordAt ws 1
  let trim := field w1 0 16
  match identity? 128 (field w0 24 8), identity? 4 (field w1 16 8) with
  | some slot, some profile =>
    if field w0 0 16 ≤ 511 then
      some (⟨slot, field w0 0 16, min (carriedTapCount ws) 64, min trim 1536, profile⟩,
        decide (64 < carriedTapCount ws) || decide (1536 < trim))
    else none
  | _, _ => none

def encodeProfile (r : ProfileRec) : List Word :=
  [pairWord r.threshold r.sustain, pairWord r.duck r.maximum, pairWord r.hold r.recovery]

/-- A profile of given fields, its threshold in samples formed with it (R16). -/
def mkProfile (threshold sustain duck maximum hold recovery : Nat) : ProfileRec :=
  ⟨threshold, thresholdSamples threshold, sustain, duck, maximum, hold, recovery⟩

/-- No field of a PROFILES record is refused; G is clamped against the clamped D (R125). -/
def decodeProfile (ws : List Word) : Treated ProfileRec :=
  let t := field (wordAt ws 0) 0 16
  let k := field (wordAt ws 0) 16 16
  let d := field (wordAt ws 1) 0 16
  let g := field (wordAt ws 1) 16 16
  let h := field (wordAt ws 2) 0 16
  let v := field (wordAt ws 2) 16 16
  let d' := clampTo 1 192 d
  some (mkProfile (min t 1535) (clampTo 1 64 k) d' (clampTo d' 768 g) (clampTo 1 4095 h) (clampTo 1 4095 v),
    decide (1535 < t) || clampTo 1 64 k != k || d' != d || clampTo d' 768 g != g ||
      clampTo 1 4095 h != h || clampTo 1 4095 v != v)

def encodeGlobals (r : GlobalsRec) : List Word :=
  [word (place 0 8 r.order.code + place 8 8 r.riseRate + place 16 8 r.fallRate + place 24 8 r.backoffStep),
   pairWord r.backoffMaximum r.backoffHold, word (place 0 16 r.backoffInterval)] ++ nameWords r.name

def decodeGlobals (ws : List Word) : Treated GlobalsRec :=
  let w0 := wordAt ws 0
  let rise := field w0 8 8
  let fall := field w0 16 8
  let step := field w0 24 8
  let maximum := field (wordAt ws 1) 0 16
  let hold := field (wordAt ws 1) 16 16
  let interval := field (wordAt ws 2) 0 16
  let name := nameOf (ws.drop 3)
  (matrixOrder? (field w0 0 8)).map (fun order =>
    (⟨order, clampTo 1 255 rise, clampTo 1 255 fall, clampTo 1 96 step, min maximum 480,
      clampTo 1 4095 hold, clampTo 1 4095 interval, name.1⟩,
     clampTo 1 255 rise != rise || clampTo 1 255 fall != fall || clampTo 1 96 step != step ||
       decide (480 < maximum) || clampTo 1 4095 hold != hold || clampTo 1 4095 interval != interval || name.2))

/-! ### Tables -/

/-- The tables in the order of their codes (R200). -/
def tableList : List TableName :=
  [.bank .inputs, .bank .injections, .bank .lines, .bank .taps, .bank .outputs, .bank .profiles, .bank .globals,
   .amendments, .node, .inputState, .lineState, .outputState, .counters, .capture, .sectors]

/-- A table by its code; a code with no table is none (R183). -/
def table? (code : Nat) : Option TableName := tableList[code]?

/-- The code of a bank table (R200). -/
def BankTable.code : BankTable → Nat
  | .inputs => 0
  | .injections => 1
  | .lines => 2
  | .taps => 3
  | .outputs => 4
  | .profiles => 5
  | .globals => 6

/-- The code of a table (R200). -/
def TableName.code : TableName → Nat
  | .bank t => t.code
  | .amendments => 7
  | .node => 8
  | .inputState => 9
  | .lineState => 10
  | .outputState => 11
  | .counters => 12
  | .capture => 13
  | .sectors => 14

/-- The number of entries of a bank table (R123). -/
def BankTable.size : BankTable → Nat
  | .inputs => 24
  | .injections => 128
  | .lines => 16
  | .taps => 512
  | .outputs => 32
  | .profiles => 4
  | .globals => 1

/-- The number of entries of a table (R182). -/
def TableName.size : TableName → Nat
  | .bank t => t.size
  | .amendments => 8
  | .node => 1
  | .inputState => 24
  | .lineState => 16
  | .outputState => 33
  | .counters => 76
  | .capture => 4096
  | .sectors => 17

/-- The words of a record of a table (R200). -/
def TableName.words : TableName → Nat
  | .bank .inputs => 2
  | .bank .injections => 1
  | .bank .lines => 4
  | .bank .taps => 2
  | .bank .outputs => 2
  | .bank .profiles => 3
  | .bank .globals => 7
  | .amendments => 3
  | .node => 2
  | .inputState => 2
  | .lineState => 4
  | .outputState => 4
  | .counters => 1
  | .capture => 1
  | .sectors => 5

/-! ### Images (R202) -/

/-- The 1,347 words of a bank's image: the tables in code order, entries ascending. -/
def encodeBank (b : Bank) : List Word :=
  b.inputs.toList.flatMap encodeInput ++ b.injections.toList.flatMap encodeInjection ++
  b.lines.toList.flatMap encodeLine ++ b.taps.toList.flatMap encodeTap ++
  b.outputs.toList.flatMap encodeOutput ++ b.profiles.toList.flatMap encodeProfile ++ encodeGlobals b.globals

/-- A record of an image written over a former one; a refused record leaves the former (R124). -/
def overFormer {α : Type} (former : α) (t : Treated α) : α := (t.map Prod.fst).getD former

/-- A bank with every record written from an image (R124, R163). The computed fields of the LINES records
are taken as stored. -/
def decodeBank (former : Bank) (ws : List Word) : Bank where
  inputs := changeAll former.inputs (fun i r => overFormer r (decodeInput (ws.drop (2 * i.val))))
  injections := changeAll former.injections (fun n r => overFormer r (decodeInjection (ws.drop (48 + n.val))))
  lines := changeAll former.lines (fun j r => overFormer r (decodeLine (ws.drop (176 + 4 * j.val))))
  taps := changeAll former.taps (fun t r => overFormer r (decodeTap (ws.drop (240 + 2 * t.val))))
  outputs := changeAll former.outputs (fun m r => overFormer r (decodeOutput (ws.drop (1264 + 2 * m.val))))
  profiles := changeAll former.profiles (fun p r => overFormer r (decodeProfile (ws.drop (1328 + 3 * p.val))))
  globals := overFormer former.globals (decodeGlobals (ws.drop 1340))

/-! ### Amendments (R166, R200) -/

/-- The number of fields of a bank table, in the order of the field table of R124; the four words of the
scene name are fields 7 to 10 of GLOBALS (R200). -/
def BankTable.fields : BankTable → Nat
  | .inputs => 4
  | .injections => 3
  | .lines => 6
  | .taps => 4
  | .outputs => 5
  | .profiles => 6
  | .globals => 11

/-- How a value carried for a field is treated: refused with a code, or taken after clamping. -/
inductive FieldCheck where
  | refused (r : ResultCode)
  | taken (value : Nat)
deriving DecidableEq, Repr

/-- A value that is refused unless it lies in range. -/
def mustBe (b : Bool) (x : Nat) : FieldCheck := if b then .taken x else .refused .range

/-- The four characters of a name word: bytes before the first 0 made printable, the rest 0. -/
def nameWordValue (x : Nat) : Nat :=
  let cs := (untilEnd ((List.range 4).map (fun i => x / 2 ^ (8 * i) % 256))).map printable
  cs.getD 0 0 + cs.getD 1 0 * 2 ^ 8 + cs.getD 2 0 * 2 ^ 16 + cs.getD 3 0 * 2 ^ 24

/-- The characters of a name word that a clamp replaces. -/
def nameWordClamped (x : Nat) : Bool :=
  let cs := untilEnd ((List.range 4).map (fun i => x / 2 ^ (8 * i) % 256))
  cs.map printable != cs

/-- The value of an amendment as a write of the field it names (R166, with R124 and R125). -/
def fieldValue (t : BankTable) (f x : Nat) : FieldCheck :=
  match t, f with
  | .inputs, 0 => mustBe (decide (x < 128) || x == 255) x
  | .inputs, 1 => .taken (min x 1536)
  | .inputs, 2 => .taken (min x 255)
  | .inputs, 3 => .taken (min x 254)
  | .injections, 0 => mustBe (decide (x < 24) || x == 255) x
  | .injections, 1 => mustBe (decide (x < 16)) x
  | .injections, 2 => .taken (min x 1536)
  | .lines, 0 => mustBe (decide (x < Config.poolWords)) x
  | .lines, 1 => mustBe (lengthOk x) x
  | .lines, 2 => mustBe (decide (x < 2)) x
  | .lines, 3 => .taken (clampTo 100 20000 x)
  | .lines, 4 => .refused .refused
  | .lines, 5 => .refused .refused
  | .taps, 0 => mustBe (decide (x < 16)) x
  | .taps, 1 => mustBe (decide (1 ≤ x) && decide (x ≤ 65536)) x
  | .taps, 2 => mustBe (decide (x < 2)) x
  | .taps, 3 => .taken (min x 1536)
  | .outputs, 0 => mustBe (decide (x < 128) || x == 255) x
  | .outputs, 1 => mustBe (decide (x ≤ 511)) x
  | .outputs, 2 => .taken (min x 64)
  | .outputs, 3 => .taken (min x 1536)
  | .outputs, 4 => mustBe (decide (x < 4) || x == 255) x
  | .profiles, 0 => .taken (min x 1535)
  | .profiles, 1 => .taken (clampTo 1 64 x)
  | .profiles, 2 => .taken (clampTo 1 192 x)
  | .profiles, 3 => .taken (clampTo 1 768 x)
  | .profiles, 4 => .taken (clampTo 1 4095 x)
  | .profiles, 5 => .taken (clampTo 1 4095 x)
  | .globals, 0 => mustBe (x == 4 || x == 16) x
  | .globals, 1 => .taken (clampTo 1 255 x)
  | .globals, 2 => .taken (clampTo 1 255 x)
  | .globals, 3 => .taken (clampTo 1 96 x)
  | .globals, 4 => .taken (min x 480)
  | .globals, 5 => .taken (clampTo 1 4095 x)
  | .globals, 6 => .taken (clampTo 1 4095 x)
  | .globals, 7 => .taken (nameWordValue x)
  | .globals, 8 => .taken (nameWordValue x)
  | .globals, 9 => .taken (nameWordValue x)
  | .globals, 10 => .taken (nameWordValue x)
  | _, _ => .refused .range

/-- Whether the treatment of an amendment's value is a clamp, answered CLAMPED. A name word is clamped
where a character of it is replaced. -/
def fieldClamped (t : BankTable) (f x v : Nat) : Bool :=
  match t with
  | .globals => if 7 ≤ f then nameWordClamped x else v != x
  | _ => v != x

def encodeAmendment (r : Amendment) : List Word :=
  [word (placeBit 0 r.inUse + place 8 8 (identityCode r.sector) + place 16 8 r.table.code + place 24 8 r.field),
   word (place 0 16 r.index), word r.value]

/-- A bank table by its code. -/
def bankTable? (code : Nat) : Option BankTable :=
  match table? code with
  | some (.bank t) => some t
  | _ => none

/-- An amendment record as PUT: the record and whether it was clamped, or the code of its refusal (R166). Where
a record has a reason for RANGE and names a read-only field, the answer RANGE is the model's choice (log 40). -/
def decodeAmendment (ws : List Word) : Except ResultCode (Amendment × Bool) :=
  let w0 := wordAt ws 0
  let index := field (wordAt ws 1) 0 16
  let f := field w0 24 8
  let x := (wordAt ws 2).toNat
  match identity? 16 (field w0 8 8), bankTable? (field w0 16 8) with
  | some sector, some t =>
    if index < t.size ∧ f < t.fields then
      match fieldValue t f x with
      | .refused r => .error r
      | .taken v => .ok (⟨bitOf w0 0, sector, t, index, f, v⟩, fieldClamped t f x v)
    else .error .range
  | _, _ => .error .range

/-- A code read as an identity that may be NONE; amendments hold checked codes only. -/
def identityOr {n : Nat} (former : Option (Fin n)) (x : Nat) : Option (Fin n) := (identity? n x).getD former

/-- A code read as an identity without NONE. -/
def numberOr {n : Nat} (former : Fin n) (x : Nat) : Fin n := (number? n x).getD former

/-- An entry of a table changed where its number lies in the table. -/
def changeEntry {α : Type} {n : Nat} (t : Vector α n) (i : Nat) (f : α → α) : Vector α n :=
  if h : i < n then changeAt t ⟨i, h⟩ f else t

/-- The 16 bytes of a name with its word `k` (four characters) replaced. Bytes after a 0 stay while amendments
are applied: a later amendment may fill the gap (R163). -/
def amendName (name : List Nat) (k x : Nat) : List Nat :=
  let bs := (List.range 16).map (fun i => name.getD i 0)
  (bs.take (4 * k)) ++ (List.range 4).map (fun i => x / 2 ^ (8 * i) % 256) ++ bs.drop (4 * k + 4)

/-- The image with one amendment applied: its value written into the named field of the named record
(R163). A threshold's number of samples is formed with it (R16). -/
def applyAmendment (b : Bank) (a : Amendment) : Bank :=
  let v := a.value
  match a.table, a.field with
  | .inputs, 0 => { b with inputs := changeEntry b.inputs a.index (fun r => { r with slot := identityOr r.slot v }) }
  | .inputs, 1 => { b with inputs := changeEntry b.inputs a.index (fun r => { r with attenuation := v }) }
  | .inputs, 2 => { b with inputs := changeEntry b.inputs a.index (fun r => { r with admitCount := v }) }
  | .inputs, 3 => { b with inputs := changeEntry b.inputs a.index (fun r => { r with dropLimit := v }) }
  | .injections, 0 =>
    { b with injections := changeEntry b.injections a.index (fun r => { r with input := identityOr r.input v }) }
  | .injections, 1 => { b with injections := changeEntry b.injections a.index (fun r => { r with line := numberOr r.line v }) }
  | .injections, 2 => { b with injections := changeEntry b.injections a.index (fun r => { r with attenuation := v }) }
  | .lines, 0 => { b with lines := changeEntry b.lines a.index (fun r => { r with base := v }) }
  | .lines, 1 => { b with lines := changeEntry b.lines a.index (fun r => { r with length := v }) }
  | .lines, 2 => { b with lines := changeEntry b.lines a.index (fun r => { r with sign := signOf (v == 1) }) }
  | .lines, 3 => { b with lines := changeEntry b.lines a.index (fun r => { r with time := v }) }
  | .taps, 0 => { b with taps := changeEntry b.taps a.index (fun r => { r with line := numberOr r.line v }) }
  | .taps, 1 => { b with taps := changeEntry b.taps a.index (fun r => { r with offset := v }) }
  | .taps, 2 => { b with taps := changeEntry b.taps a.index (fun r => { r with sign := signOf (v == 1) }) }
  | .taps, 3 => { b with taps := changeEntry b.taps a.index (fun r => { r with attenuation := v }) }
  | .outputs, 0 => { b with outputs := changeEntry b.outputs a.index (fun r => { r with slot := identityOr r.slot v }) }
  | .outputs, 1 => { b with outputs := changeEntry b.outputs a.index (fun r => { r with firstTap := v }) }
  | .outputs, 2 => { b with outputs := changeEntry b.outputs a.index (fun r => { r with tapCount := v }) }
  | .outputs, 3 => { b with outputs := changeEntry b.outputs a.index (fun r => { r with trim := v }) }
  | .outputs, 4 =>
    { b with outputs := changeEntry b.outputs a.index (fun r => { r with profile := identityOr r.profile v }) }
  | .profiles, 0 =>
    { b with profiles :=
        changeEntry b.profiles a.index (fun r => { r with threshold := v, samples := thresholdSamples v }) }
  | .profiles, 1 => { b with profiles := changeEntry b.profiles a.index (fun r => { r with sustain := v }) }
  | .profiles, 2 => { b with profiles := changeEntry b.profiles a.index (fun r => { r with duck := v }) }
  | .profiles, 3 => { b with profiles := changeEntry b.profiles a.index (fun r => { r with maximum := v }) }
  | .profiles, 4 => { b with profiles := changeEntry b.profiles a.index (fun r => { r with hold := v }) }
  | .profiles, 5 => { b with profiles := changeEntry b.profiles a.index (fun r => { r with recovery := v }) }
  | .globals, 0 => { b with globals := { b.globals with order := (matrixOrder? v).getD b.globals.order } }
  | .globals, 1 => { b with globals := { b.globals with riseRate := v } }
  | .globals, 2 => { b with globals := { b.globals with fallRate := v } }
  | .globals, 3 => { b with globals := { b.globals with backoffStep := v } }
  | .globals, 4 => { b with globals := { b.globals with backoffMaximum := v } }
  | .globals, 5 => { b with globals := { b.globals with backoffHold := v } }
  | .globals, 6 => { b with globals := { b.globals with backoffInterval := v } }
  | .globals, 7 => { b with globals := { b.globals with name := amendName b.globals.name 0 v } }
  | .globals, 8 => { b with globals := { b.globals with name := amendName b.globals.name 1 v } }
  | .globals, 9 => { b with globals := { b.globals with name := amendName b.globals.name 2 v } }
  | .globals, 10 => { b with globals := { b.globals with name := amendName b.globals.name 3 v } }
  | _, _ => b

/-- After the last amendment, a guard maximum below its duck step is raised to it (R163), and the scene name ends
at its first byte of code 0 (R200, log 24). -/
def finishAmended (b : Bank) : Bank :=
  { b with
    profiles := changeAll b.profiles (fun _ r => { r with maximum := max r.maximum r.duck })
    globals := { b.globals with name := untilEnd b.globals.name } }

/-! ### The NODE record (R186, R200) -/

/-- The flags of a table as the bits of a number. -/
def flagsNumber (bs : List Bool) : Nat := bs.foldr (fun b n => (if b then 1 else 0) + 2 * n) 0

def encodeNode (r : NodeRecord) : List Word :=
  [word (place 0 4 r.number + place 8 8 r.threshold),
   word (place 0 6 (flagsNumber r.enables.rise.toList) + place 8 6 (flagsNumber r.enables.fall.toList) +
     place 16 9 (flagsNumber r.enables.pulse.toList))]

/-- The NODE record with a written one taken: the node number is ignored, the threshold clamped to 1 to
15, the enables written as carried (R186). -/
def writeNode (r : NodeRecord) (ws : List Word) : NodeRecord × Bool :=
  let t := field (wordAt ws 0) 8 8
  let w1 := wordAt ws 1
  ({ r with
      threshold := clampTo 1 15 t
      enables :=
        { rise := Vector.ofFn (fun i => bitOf w1 i.val)
          fall := Vector.ofFn (fun i => bitOf w1 (8 + i.val))
          pulse := Vector.ofFn (fun i => bitOf w1 (16 + i.val)) } }, clampTo 1 15 t != t)

end Sys2Proof.Machine
end

