-- ==== Sys2Proof/Machine/DecayCalculator.lean ====
section
/-! DEFINITION. The Decay Calculator: the derivation, the take and the completion of an entry (R83 to R93). -/

namespace Sys2Proof.Machine

/-- The raw result floor((40 × L + T) / (2 × T)) (R83). -/
def rawDecay (length time : Nat) : Nat := (40 * length + time) / (2 * time)

/-- The decay attenuation of a length and time (R84). -/
def decayOf (length time : Nat) : Nat :=
  if length = 0 then Config.silence else clampTo 1 Config.silence (rawDecay length time)

/-- The clamp marker of a length and time: set where the raw result is 0, or 1536 or more (R84). -/
def clampOf (length time : Nat) : Bool :=
  length != 0 && (rawDecay length time == 0 || decide (Config.silence ≤ rawDecay length time))

/-- An entry may be taken or completed now: not for the pending bank under the engine reason (R88). -/
def eligible (s : State) (n : BankName) : Bool := !(n == pendingName s && engineReason s)

/-- The oldest waiting entry that may be taken (R87, R88). -/
def oldestEligible (s : State) : Option (BankName × Fin 16) := s.decay.queue.find? (fun e => eligible s e.1)

/-- The entry with the length and time its line's record holds now (R87). -/
def entryOf (s : State) (e : BankName × Fin 16) : DecayEntry :=
  ⟨e.1, e.2, (bankOf s e.1).lines[e.2].length, (bankOf s e.1).lines[e.2].time⟩

/-- The take of the oldest eligible entry when nothing is in progress (R87). -/
def decayTake (s : State) : State :=
  match s.decay.current, oldestEligible s with
  | none, some e => { s with decay := ⟨s.decay.queue.erase e, some (entryOf s e)⟩ }
  | _, _ => s

/-- The line records of a bank with a computed result written (R88). -/
def withDecay (b : Bank) (e : DecayEntry) : Bank :=
  { b with lines := changeAt b.lines e.line (fun r =>
      { r with decay := decayOf e.length e.time, clamp := clampOf e.length e.time }) }

/-- The completion of an entry: result and marker written into its bank, DECAY_CLAMPED reported where
the marker is set (R88). -/
def completeEntry (e : DecayEntry) (s : State) : State :=
  let t := setBank s e.bank (withDecay (bankOf s e.bank) e)
  pulseIf (clampOf e.length e.time) .decayClamped { t with decay := { t.decay with current := none } }

/-- The completion of the entry in progress, unless it is held (R88). -/
def decayCompletion (s : State) : State :=
  match s.decay.current with
  | some e => if eligible s e.bank then completeEntry e s else s
  | none => s

/-- The calculator's work of a block boundary: the completion first, then the take (R87, R88). -/
def decayBoundary (s : State) : State := decayTake (decayCompletion s)

end Sys2Proof.Machine
end

