-- ==== Sys2Proof/Machine/Inputs.lean ====
section
/-! DEFINITION. The Input Stage: admission, conditioning, ramps, lock loss and install (R38 to R54). -/

namespace Sys2Proof.Machine

/-- What the Ring Interface knows of a frame period: the arriving frame, whether its contents are used
(R33), whether its number was adopted at a slip (R27), whether it completes acquisition (R24), and
whether it ends lock (R26, R27). -/
structure Env where
  frame  : Option Frame
  usable : Bool
  slip   : Bool
  relock : Bool
  loss   : Bool
deriving DecidableEq, Repr

/-- A frame period of the local oscillator (R19). -/
def oscillatorEnv : Env := ⟨none, false, false, false, false⟩

/-- The usable sample of a slot, none where it is unusable (R33). -/
def usableSample (env : Env) (slot : Nat) : Option Sample :=
  match env.frame with
  | some f => if env.usable && validMarker f slot then some (slotSample f slot) else none
  | none => none

/-- Entering ADMITTED at a current (R44). -/
def admitted (current : Nat) (u : InputUnit) : InputUnit :=
  { u with state := .admitted, qualify := 0, invalidRun := 0, current := current }

/-- Entering ABSENT (R46, R50): the current and the counter are not changed. -/
def absented (u : InputUnit) : InputUnit := { u with state := .absent, qualify := 0, invalidRun := 0 }

/-- An unusable sample at an admitted input: run and counter rise, and a run above E drops it (R46). -/
def substituted (dropLimit : Nat) (u : InputUnit) : InputUnit :=
  let v := { u with invalidRun := u.invalidRun + 1, invalid := bump u.invalid }
  if dropLimit < u.invalidRun + 1 then absented v else v

/-- A usable sample at an input, with the current an admission sets (R41, R42, R45). -/
def received (admitCount setTo : Nat) (u : InputUnit) : InputUnit :=
  match u.state with
  | .unbound => u
  | .absent => if admitCount ≤ 1 then admitted setTo u else { u with state := .qualifying, qualify := 1 }
  | .qualifying => if admitCount ≤ u.qualify + 1 then admitted setTo u else { u with qualify := u.qualify + 1 }
  | .admitted => { u with invalidRun := 0 }

/-- An unusable sample at an input (R41, R42, R46). -/
def missed (dropLimit : Nat) (u : InputUnit) : InputUnit :=
  match u.state with
  | .unbound | .absent => u
  | .qualifying => absented u
  | .admitted => substituted dropLimit u

/-- An input with the frame period's sample taken; an unbound one reads no slot (R40). -/
def takeSample (r : InputRec) (setTo : Nat) (sample : Option Sample) (u : InputUnit) : InputUnit :=
  if r.slot.isNone then u
  else match sample with
    | some _ => received r.admitCount setTo u
    | none => missed r.dropLimit u

/-- The sample the slot of an input's record offers. -/
def offered (env : Env) (r : InputRec) : Option Sample := r.slot.bind (fun n => usableSample env n.val)

/-- The conditioned sample of an input whose state is that after the sample (R48). -/
def conditioned (r : InputRec) (sample : Option Sample) (u : InputUnit) : Sample :=
  match r.slot, sample, u.state with
  | some _, some raw, .admitted => sat (rnd (scaled raw u.current))
  | _, _, _ => 0

/-- The current an admission sets: 1536, and at a block boundary, where the setting is taken first, one
step from it (R44, R14). -/
def admissionCurrent (first boundary : Bool) (g : GlobalsRec) (target : Nat) : Nat :=
  if first && boundary then rampStep g.riseRate g.fallRate target Config.silence else Config.silence

/-- An input after the frame period's sample. A frame period that ends lock takes the lock loss in its
place (R50). -/
def nextInput (env : Env) (boundary : Bool) (s : State) (i : Fin 24) : InputUnit :=
  let r := (activeBank s).inputs[i]
  if env.loss then s.inputs[i]
  else
    takeSample r (admissionCurrent (Config.settingFirst s.draws i.val) boundary (activeBank s).globals r.attenuation)
      (offered env r) s.inputs[i]

/-- The conditioned sample x_i of the frame period (R48, R50). For an ABSENT input admitted at once R41 says 0 and
R44 conditions at the current of the frame period; at a block boundary the two can differ, and R44 is taken, the
model's choice (log 38). -/
def inputSample (env : Env) (boundary : Bool) (s : State) (i : Fin 24) : Sample :=
  let r := (activeBank s).inputs[i]
  if env.loss then 0 else conditioned r (offered env r) (nextInput env boundary s i)

/-- The Input Stage's work of a frame period. -/
def inputsWork (env : Env) (boundary : Bool) (s : State) : State :=
  { s with inputs := Vector.ofFn (nextInput env boundary s) }

/-- The ramp step of the input currents (R49). -/
def inputsRamp (s : State) : State :=
  let b := activeBank s
  { s with inputs := changeAll s.inputs (fun i u =>
      { u with current := rampStep b.globals.riseRate b.globals.fallRate b.inputs[i].attenuation u.current }) }

/-- The inputs at a lock loss: every bound input enters ABSENT (R50). -/
def inputsLockLoss (s : State) : State :=
  { s with inputs := changeAll s.inputs (fun _ u => if u.state = .unbound then u else absented u) }

/-- An input as the active bank binds it: ABSENT or UNBOUND, counts 0 (R51, R52). -/
def rebound (r : InputRec) (u : InputUnit) : InputUnit :=
  { u with state := if r.slot.isSome then .absent else .unbound, qualify := 0, invalidRun := 0 }

/-- The inputs at an install: bound afresh, currents set to their targets (R51). -/
def inputsInstall (s : State) : State :=
  { s with inputs := changeAll s.inputs (fun i u =>
      { rebound (activeBank s).inputs[i] u with current := (activeBank s).inputs[i].attenuation }) }

/-- The inputs at a warm reset: bound afresh, counters 0, currents kept (R52). -/
def inputsWarmReset (s : State) : State :=
  { s with inputs := changeAll s.inputs (fun i u => { rebound (activeBank s).inputs[i] u with invalid := 0 }) }

end Sys2Proof.Machine
end

