-- ==== Sys2Proof/Machine/Reverberation.lean ====
section
/-! DEFINITION. The Reverberation Core: line ends, feedback groups, line writes, taps, clearing (R55 to R82). -/

namespace Sys2Proof.Machine

/-- A line is used when its length in the active bank is not 0 (R56). -/
def lineUsed (b : Bank) (j : Fin 16) : Bool := b.lines[j].length != 0

/-- The pool word of line `j` that lies `back` words behind its write position (R58). -/
def lineWord (s : State) (j : Fin 16) (back : Nat) : Nat :=
  let r := (activeBank s).lines[j]
  r.base + (((s.reverb.position[j] : Int) - (back : Int)) % (r.length : Int)).toNat

/-- The line end y_j; an unused line's is 0 (R58, R59). -/
def lineEnd (s : State) (j : Fin 16) : Sample :=
  if lineUsed (activeBank s) j then poolRead s.reverb.pool ((activeBank s).lines[j].base + s.reverb.position[j]) else 0

/-- The tap value at an offset of a line; an unused line gives 0 (R58, R59). -/
def tapValue (s : State) (j : Fin 16) (offset : Nat) : Sample :=
  if lineUsed (activeBank s) j then poolRead s.reverb.pool (lineWord s j offset) else 0

/-- A sign as +1 or −1 (R62). -/
def Sign.factor : Sign → Int
  | .plus => 1
  | .minus => -1

/-- The group size N (R61). -/
def MatrixOrder.size : MatrixOrder → Nat
  | .four => 4
  | .sixteen => 16

/-- H(j,k) from the binary places in which both positions have a 1 (R62). -/
def mixSign (j k : Nat) : Int :=
  if ((List.range 4).countP (fun i => j.testBit i && k.testBit i)) % 2 = 0 then 1 else -1

/-- Whether two lines stand in one feedback group of size `n` (R61). -/
def sameGroup (n : Nat) (j k : Fin 16) : Bool := j.val / n == k.val / n

/-- h_j: the signed line ends of the group, summed with the signs of R62. -/
def groupSum (s : State) (j : Fin 16) : Int :=
  let b := activeBank s
  let n := b.globals.order.size
  total ((entries 16).map (fun k =>
    if sameGroup n j k then b.lines[k].sign.factor * mixSign (j.val % n) (k.val % n) * lineEnd s k else 0))

/-- h'_j: h_j divided by the square root of the group size, halves toward plus infinity (R63). -/
def feedbackTerm (order : MatrixOrder) (h : Int) : Int :=
  match order with
  | .sixteen => (h + 2) / 4
  | .four => (h + 1) / 2

/-- e_j: the composite of the line's decay current and B (R65). -/
def appliedAttenuation (s : State) (level : Nat) (j : Fin 16) : Nat := composite s.reverb.lineCurrent[j] level

/-- v_j: the injection products of the entries that name line `j` and the feedback product (R64, R66).
`x` holds the conditioned samples, `level` is the B the writes of the frame period use (R65). -/
def lineSum (x : Vector Sample 24) (level : Nat) (s : State) (j : Fin 16) : Int :=
  let b := activeBank s
  total ((entries 128).map (fun n =>
    match b.injections[n].input with
    | some i => if b.injections[n].line = j then scaled x[i] s.reverb.injectionCurrent[n] else 0
    | none => 0)) +
  scaled (feedbackTerm b.globals.order (groupSum s j)) (appliedAttenuation s level j)

/-- w_j = sat(rnd(v_j)) (R66). -/
def lineSample (x : Vector Sample 24) (level : Nat) (s : State) (j : Fin 16) : Sample := sat (rnd (lineSum x level s j))

/-- The write of a used line clips (R67). -/
def lineClipped (x : Vector Sample 24) (level : Nat) (s : State) (j : Fin 16) : Bool :=
  lineUsed (activeBank s) j && clips (rnd (lineSum x level s j))

/-- A tap lies in an output's run (R68). -/
def inRun (r : OutputRec) (t : Nat) : Bool := decide (r.firstTap ≤ t) && decide (t < r.firstTap + r.tapCount)

/-- t_m: the exact sum over the taps of output `m`'s run (R69). -/
def tapSum (s : State) (m : Fin 32) : Int :=
  let b := activeBank s
  total ((List.range b.outputs[m].tapCount).map (fun k =>
    if h : b.outputs[m].firstTap + k < 512 then
      let t : Fin 512 := ⟨b.outputs[m].firstTap + k, h⟩
      scaled (b.taps[t].sign.factor * tapValue s b.taps[t].line b.taps[t].offset) s.reverb.tapCurrent[t]
    else 0))

/-- The present frame period is a clearing frame period: the clearing was started before it (R76, R77). -/
def clearingPeriod (s : State) : Bool := s.reverb.clearing && !s.marks.clear

/-- u_m, the pre-trim sum handed to the Output Stage; 0 in a clearing frame period (R69, R77). -/
def preTrim (s : State) (m : Fin 32) : Sample := if clearingPeriod s then 0 else sat (rnd (tapSum s m))

/-- The mark handed with u_m: its sat() was a clip occurrence (R69, R77). -/
def preTrimClipped (s : State) (m : Fin 32) : Bool := !clearingPeriod s && clips (rnd (tapSum s m))

/-- A frame period of the core that computes: every used line is written from the values read before
(R60, R66), clips counted and reported (R67), LINE_STATE's two fields kept (R82). -/
def reverbCompute (x : Vector Sample 24) (level : Nat) (s : State) : State :=
  let b := activeBank s
  let t := { s with reverb := { s.reverb with
    pool := (entries 16).foldl (fun p j =>
      if lineUsed b j then poolWrite p (b.lines[j].base + s.reverb.position[j]) (lineSample x level s j) else p) s.reverb.pool
    position := changeAll s.reverb.position (fun j p =>
      if lineUsed b j then (if p + 1 < b.lines[j].length then p + 1 else 0) else p)
    lineClips := changeAll s.reverb.lineClips (fun j c => if lineClipped x level s j then bump c else c)
    applied := Vector.ofFn (appliedAttenuation s level)
    lastEnd := Vector.ofFn (lineEnd s) } }
  (entries 16).foldl (fun u j => pulseIf (lineClipped x level s j) .clip u) t

/-- A clearing frame period: the next 4,096 words zeroed, the count raised, line ends of 0 (R77). -/
def reverbClear (s : State) : State :=
  let k := s.reverb.clearCount
  { s with reverb := { s.reverb with
    pool := Cells.clear s.reverb.pool (Config.clearStride * k) (Config.clearStride * (k + 1))
    clearCount := k + 1
    lastEnd := Vector.replicate 16 0 } }

/-- The core's work of a frame period (R60, R77). -/
def reverbWork (x : Vector Sample 24) (level : Nat) (s : State) : State :=
  if clearingPeriod s then reverbClear s else reverbCompute x level s

/-- The ramp step of the core's currents (R70 to R72). -/
def reverbRamp (s : State) : State :=
  let b := activeBank s
  let step := rampStep b.globals.riseRate b.globals.fallRate
  { s with reverb := { s.reverb with
    injectionCurrent := changeAll s.reverb.injectionCurrent (fun n c => step b.injections[n].attenuation c)
    lineCurrent := changeAll s.reverb.lineCurrent (fun j c => step b.lines[j].decay c)
    tapCurrent := changeAll s.reverb.tapCurrent (fun t c => step b.taps[t].attenuation c) } }

/-- The core at an install: every current set to its target in the active bank (R75). -/
def reverbInstall (s : State) : State :=
  let b := activeBank s
  { s with reverb := { s.reverb with
    injectionCurrent := Vector.ofFn (fun n => b.injections[n].attenuation)
    lineCurrent := Vector.ofFn (fun j => b.lines[j].decay)
    tapCurrent := Vector.ofFn (fun t => b.taps[t].attenuation) } }

/-- The start of a clearing, which restarts one in progress (R76, R79). -/
def startClearing (s : State) : State :=
  { s with reverb := { s.reverb with clearing := true, clearCount := 0 }, marks := { s.marks with clear := true } }

/-- The completion of a clearing: write positions 0, state IDLE, count 0 (R78). -/
def endClearing (s : State) : State :=
  { s with reverb := { s.reverb with clearing := false, clearCount := 0, position := Vector.replicate 16 0 } }

/-- The core at a warm reset: its clip counters 0 (R81). -/
def reverbWarmReset (s : State) : State :=
  { s with reverb := { s.reverb with lineClips := Vector.replicate 16 0 } }

end Sys2Proof.Machine
end

