-- ==== Sys2Proof/Machine/OutputStage.lean ====
section
/-! DEFINITION. The Output Stage: output samples, peaks, guards and the system backoff (R15, R94 to R121). -/

namespace Sys2Proof.Machine

/-! ### The output sample -/

/-- o_m = sat(rnd(u_m × F(c_m))) (R95). -/
def outputSample (s : State) (m : Fin 32) : Sample := sat (rnd (scaled (preTrim s m) s.outputs[m].current))

/-- The sent sample sat(o_m + q_m) (R95). -/
def sentSample (q : Vector Sample 32) (s : State) (m : Fin 32) : Sample := sat (outputSample s m + q[m])

/-- R96: the pre-trim sum or the addition of the generator sample was a clip occurrence. -/
def outputClipped (q : Vector Sample 32) (s : State) (m : Fin 32) : Bool :=
  preTrimClipped s m || clips (outputSample s m + q[m])

/-- The Output Stage's work of a frame period: running peaks and clip counters, clips reported (R15, R95,
R96). `core` is the state whose pre-trim sums the core handed on. -/
def outputsWork (q : Vector Sample 32) (core : State) (s : State) : State :=
  let t := { s with outputs := changeAll s.outputs (fun m u =>
    { u with
      runningPeak := max u.runningPeak (magnitude (outputSample core m))
      clips := if outputClipped q core m then bump u.clips else u.clips }) }
  (entries 32).foldl (fun v m => pulseIf (outputClipped q core m) .clip v) t

/-- The hand-off line moves on: the set delivered now joins behind the one before it (R31). -/
def handOff (sent : Vector Sample 32) (s : State) : State :=
  { s with ring := { s.ring with handFront := s.ring.handBack, handBack := sent } }

/-! ### Guards -/

/-- The sustain count after a block peak (R102). -/
def sustained (p : ProfileRec) (peak count : Nat) : Nat := if p.samples ≤ (peak : Int) then count + 1 else 0

/-- The evaluation is a detection (R102). -/
def detects (p : ProfileRec) (u : OutputUnit) : Bool := decide (p.sustain ≤ sustained p u.lastPeak u.guard.count)

/-- A detection (R103). -/
def detected (p : ProfileRec) (g : Guard) : Guard := ⟨.ducked, min (g.g + p.duck) p.maximum, 0, p.hold, 0⟩

/-- The hold's last count: the guard enters RECOVERING (R105). -/
def holdExpired (p : ProfileRec) (count : Nat) (g : Guard) : Guard := ⟨.recovering, g.g, count, 0, p.recovery⟩

/-- The recovery's last count: g falls by 1, and at 0 the guard is in WATCH (R106). -/
def recovered (p : ProfileRec) (count : Nat) (g : Guard) : Guard :=
  if g.g ≤ 1 then ⟨.watch, 0, count, 0, 0⟩ else ⟨.recovering, g.g - 1, count, 0, p.recovery⟩

/-- The evaluation brings the hold's expiry (R105). -/
def holdExpires (p : ProfileRec) (u : OutputUnit) : Bool :=
  !detects p u && u.guard.state == .ducked && decide (u.guard.hold ≤ 1)

/-- The evaluation brings a recovery step (R106). -/
def recoverySteps (p : ProfileRec) (u : OutputUnit) : Bool :=
  !detects p u && u.guard.state == .recovering && decide (u.guard.recovery ≤ 1)

/-- One guard evaluation on the last block peak (R102 to R106). -/
def evaluated (p : ProfileRec) (u : OutputUnit) : Guard :=
  let c := sustained p u.lastPeak u.guard.count
  if detects p u then detected p u.guard
  else match u.guard.state with
    | .watch => { u.guard with count := c }
    | .ducked => if u.guard.hold ≤ 1 then holdExpired p c u.guard else { u.guard with count := c, hold := u.guard.hold - 1 }
    | .recovering =>
      if u.guard.recovery ≤ 1 then recovered p c u.guard
      else { u.guard with count := c, recovery := u.guard.recovery - 1 }

/-- The state with the guard of an output replaced. -/
def setGuard (m : Fin 32) (g : Guard) (s : State) : State :=
  { s with outputs := changeAt s.outputs m (fun u => { u with guard := g }) }

/-- A GUARD_LIMIT taken by the backoff controller (R110). -/
def backoffLimit (g : GlobalsRec) (b : Backoff) : Backoff :=
  ⟨min (b.level + g.backoffStep) g.backoffMaximum, g.backoffHold, g.backoffInterval⟩

/-- GUARD_LIMIT: reported, and taken by the backoff controller (R103, R110). -/
def guardLimit (s : State) : State :=
  pulse .guardLimit { s with backoff := backoffLimit (activeBank s).globals s.backoff }

/-- A detection at an output: the guard ducks, and at G the limit is reached (R103). -/
def detectAt (p : ProfileRec) (m : Fin 32) (s : State) : State :=
  let t := setGuard m (detected p s.outputs[m].guard) s
  if t.outputs[m].guard.g = p.maximum then guardLimit t else t

/-- The evaluation of the guard of one output; an output without a profile is not evaluated (R101). -/
def evaluateAt (s : State) (m : Fin 32) : State :=
  match profileOf (activeBank s) m with
  | none => s
  | some p => if detects p s.outputs[m] then detectAt p m s else setGuard m (evaluated p s.outputs[m]) s

/-- The guard evaluations of a block boundary (step 2 of R98). -/
def evaluateGuards (s : State) : State := (entries 32).foldl evaluateAt s

/-- The running peaks become the last block peaks and start again from 0 (R15). -/
def blockPeaks (s : State) : State :=
  { s with outputs := changeAll s.outputs (fun _ u => { u with lastPeak := u.runningPeak, runningPeak := 0 }) }

/-! ### The backoff controller -/

/-- Some output's guard is in DUCKED (R111). -/
def someDucked (s : State) : Bool := (entries 32).any (fun m => s.outputs[m].guard.state == .ducked)

/-- The interval's last count: B falls by 1 and the interval restarts (R111). -/
def backoffFall (g : GlobalsRec) (b : Backoff) : Backoff := { b with level := b.level - 1, interval := g.backoffInterval }

/-- The step would bring the interval's expiry (R111). -/
def intervalExpires (s : State) : Bool :=
  s.backoff.hold == 0 && decide (0 < s.backoff.level) && !someDucked s && decide (s.backoff.interval ≤ 1)

/-- The controller's timers counted for the block just ended (step 1 of R98, R111). -/
def backoffStep (s : State) : State :=
  let b := s.backoff
  if 0 < b.hold then { s with backoff := { b with hold := b.hold - 1 } }
  else if b.level = 0 ∨ someDucked s then s
  else if b.interval ≤ 1 then { s with backoff := backoffFall (activeBank s).globals b }
  else { s with backoff := { b with interval := b.interval - 1 } }

/-! ### The work of a block boundary (R98) -/

/-- The ramp step of the output currents toward the targets formed afresh (steps 3 and 4 of R98). -/
def outputsRamp (mute : Bool) (s : State) : State :=
  let g := (activeBank s).globals
  { s with outputs := changeAll s.outputs (fun m u =>
      { u with current := rampStep g.riseRate g.fallRate (targetUnder mute s m) u.current }) }

/-! ### Values brought within parameters (R100, R112, R117) -/

/-- A guard brought within a profile: g, hold and recovery no larger than G, H and V (R100). -/
def fitGuard (p : ProfileRec) (g : Guard) : Guard :=
  { g with g := min g.g p.maximum, hold := min g.hold p.hold, recovery := min g.recovery p.recovery }

/-- The backoff brought within the globals (R112). -/
def fitBackoff (g : GlobalsRec) (b : Backoff) : Backoff :=
  ⟨min b.level g.backoffMaximum, min b.hold g.backoffHold, min b.interval g.backoffInterval⟩

/-- The outputs after a live write of profile `n` in the active bank (R100). -/
def profileWritten (n : Fin 4) (s : State) : State :=
  let b := activeBank s
  { s with outputs := changeAll s.outputs (fun m u =>
      if b.outputs[m].profile = some n then { u with guard := fitGuard b.profiles[n] u.guard } else u) }

/-- The outputs and the backoff at the swap of a SMOOTH commit (R117). -/
def outputsSwap (s : State) : State :=
  let b := activeBank s
  { s with
    outputs := changeAll s.outputs (fun m u =>
      { u with guard := match profileOf b m with
        | some p => fitGuard p u.guard
        | none => watchGuard })
    backoff := fitBackoff b.globals s.backoff }

/-- The reset of the guard of one output (R107). -/
def resetGuard (m : Fin 32) (s : State) : State := setGuard m watchGuard s

/-- The reset of every guard (R108). -/
def resetGuards (s : State) : State :=
  { s with outputs := changeAll s.outputs (fun _ u => { u with guard := watchGuard }) }

/-! ### Lock loss, install, warm reset -/

/-- The output currents at a lock loss (R115). -/
def outputsLockLoss (s : State) : State :=
  { s with outputs := changeAll s.outputs (fun _ u => { u with current := Config.silence }) }

/-- The outputs and the backoff at an install (R118). -/
def outputsInstall (s : State) : State :=
  { s with
    outputs := changeAll s.outputs (fun _ u => ⟨Config.silence, 0, 0, watchGuard, u.clips⟩)
    backoff := ⟨0, 0, 0⟩ }

/-- The outputs and the backoff at a warm reset (R120). -/
def outputsWarmReset (s : State) : State :=
  { s with outputs := Vector.replicate 32 ⟨Config.silence, 0, 0, watchGuard, 0⟩, backoff := ⟨0, 0, 0⟩ }

end Sys2Proof.Machine
end

