-- ==== Sys2Proof/Machine/Measure.lean ====
section
/-! DEFINITION. The Test Generator and the Capture Buffer (R169 to R179). -/

namespace Sys2Proof.Machine

/-- What a request answers, beside what it changes (R180). -/
structure Reply where
  result  : ResultCode
  count   : Nat := 0
  detail  : Option (Nat × Nat) := none
  payload : List Word := []
deriving DecidableEq, Repr

/-- A request refused in whole. -/
def refuse (r : ResultCode) (s : State) : State × Reply := (s, { result := r })

/-! ### The Test Generator -/

/-- The noise recurrence (R172). -/
def nextNoise (n : Nat) : Nat := (1664525 * n + 1013904223) % 4294967296

/-- v = floor(s / 256), taken as a signed value (R172). -/
def noiseValue (n : Nat) : Int :=
  let v := n / 256
  if v < 8388608 then (v : Int) else (v : Int) - 16777216

/-- The generator's sample of a frame period in RUNNING (R172). -/
def burstSample (g : Generator) : Sample :=
  match g.kind with
  | .impulse => if g.first then rnd (scaled Config.sampleTop g.level) else 0
  | .noise => rnd (scaled (noiseValue (nextNoise g.noise)) g.level)

/-- The samples q_m for every output; READY gives 0 (R169, R172). -/
def generatorSamples (g : Generator) : Vector Sample 32 :=
  Vector.ofFn (fun m => if g.running ∧ m = g.target then burstSample g else 0)

/-- The generator after its sample of a frame period (R172). -/
def generatorAdvance (g : Generator) : Generator :=
  if g.running then
    { g with
      noise := match g.kind with
        | .noise => nextNoise g.noise
        | .impulse => g.noise
      first := false
      remaining := g.remaining - 1 }
  else g

/-- The generator's work of a frame period. -/
def generatorWork (s : State) : State := { s with gen := generatorAdvance s.gen }

/-- A burst begun (R171). -/
def beginBurst (b : Burst) (g : Generator) : Generator :=
  { running := true, kind := b.kind, target := b.target, level := b.level, remaining := b.length, first := true,
    noise := if b.seed then 1 else g.noise, next := none }

/-- READY with nothing remaining; the noise state is kept (R172, R173). -/
def generatorReady (g : Generator) : Generator := { g with running := false, remaining := 0, first := false }

/-- A burst whose last sample is its next one, after that sample; one whose last sample is out is over (R172). -/
def lastSample (g : Generator) : Generator := if g.remaining = 1 then generatorReady (generatorAdvance g) else generatorReady g

/-- A running burst stopped, and with it one accepted in this frame period (R173). -/
def stopBurst (s : State) : State := { s with gen := { generatorReady s.gen with next := none } }

/-- The end of a burst whose remaining length has reached 0 (R172). -/
def burstEnd (s : State) : State :=
  if s.gen.running ∧ s.gen.remaining = 0 then { s with gen := generatorReady s.gen } else s

/-- A burst whose FIRE came before the generator's work begins after this frame period (R171). -/
def burstBegin (s : State) : State :=
  match s.gen.next with
  | some b => { s with gen := beginBurst b s.gen }
  | none => s

/-- The kind of burst of a code (R200). -/
def burstKind? (code : Nat) : Option BurstKind :=
  if code = 0 then some .impulse else if code = 1 then some .noise else none

/-- The engine's states in which a FIRE is BUSY (R170). -/
def fading (s : State) : Bool :=
  match s.engine.state with
  | .fadeOut | .clearing | .fadeIn => true
  | .steady | .scheduled => false

/-- A capture armed WITH_GENERATOR is triggered by an accepted FIRE (R176). -/
def triggerCapture (c : Capture) : Capture :=
  if c.state = .armed ∧ c.trigger = .withGenerator then { c with triggered := true } else c

/-- An accepted FIRE. Before the generator's work of its frame period the old burst's sample is still
taken, so the new burst waits in `next`; after it, it is begun (R171). A capture it triggers starts in the
frame period after this one; a capture that an earlier FIRE has triggered starts on that one (R176). -/
def accept (b : Burst) (s : State) : State :=
  let waits := s.capture.state == .armed && s.capture.trigger == .withGenerator && !s.capture.triggered
  let t := { s with
    capture := triggerCapture s.capture
    marks := { s.marks with capture := s.marks.capture || waits } }
  if s.marks.early then { t with gen := { t.gen with next := some b } }
  else { t with gen := beginBurst b t.gen }

/-- FIRE (R170, R171). -/
def fire (kind target level length : Nat) (s : State) : State × Reply :=
  match burstKind? kind, number? 32 target with
  | some k, some m =>
    if fading s then refuse .busy s
    else if (activeBank s).outputs[m].slot.isNone then refuse .range s
    else
      let lev := min level Config.silence
      let len := clampTo 1 65535 length
      let code := if lev = level ∧ len = length then ResultCode.done else .clamped
      (accept ⟨k, m, lev, len, !s.gen.running⟩ s, { result := code })
  | _, _ => refuse .range s

/-- STOP_GENERATOR (R173). A burst accepted in this frame period counts as running. -/
def stopGenerator (s : State) : State × Reply :=
  if s.gen.running || s.gen.next.isSome then (stopBurst s, { result := .done }) else refuse .nothing s

/-! ### The Capture Buffer -/

/-- The point of a kind code and a number, each in range (R175, R200). -/
def point? (kind number : Nat) : Option CapturePoint :=
  match kind with
  | 0 => (number? 24 number).map .input
  | 1 => (number? 16 number).map .line
  | 2 => (number? 32 number).map .output
  | 3 => (number? 128 number).map .slot
  | _ => none

/-- The trigger of a code (R200). -/
def trigger? (code : Nat) : Option CaptureTrigger :=
  match code with
  | 0 => some .immediate
  | 1 => some .withGenerator
  | 2 => some .atFrame
  | _ => none

/-- A distance lies from 1 to 65,535 (R134, R175). -/
def inReach (d : Nat) : Bool := decide (1 ≤ d) && decide (d ≤ Config.farthest)

/-- The buffer as an accepted ARM leaves it (R175). -/
def armedCapture (p : CapturePoint) (t : CaptureTrigger) (length frame : Nat) (c : Capture) : Capture :=
  { c with
    state := .armed, point := p, trigger := t, wanted := clampTo 1 4096 length, captured := 0, triggered := false
    scheduled := if t = .atFrame then some frame else none }

/-- ARM (R175). -/
def arm (pointKind pointNumber trigger length frame : Nat) (s : State) : State × Reply :=
  match point? pointKind pointNumber, trigger? trigger with
  | some p, some t =>
    if s.capture.state = .armed ∨ s.capture.state = .running then refuse .busy s
    else if t = .atFrame ∧ inReach (distance frame s.ring.frameNumber) = false then refuse .range s
    else
      ({ s with capture := armedCapture p t length frame s.capture, marks := { s.marks with capture := true } },
       { result := if clampTo 1 4096 length = length then .done else .clamped })
  | _, _ => refuse .range s

/-- The capture's start (R176). -/
def captureBegin (s : State) : State :=
  { s with capture := { s.capture with state := .running, scheduled := none, triggered := false } }

/-- The trigger of an armed capture is met in this frame period (R176); `slip` says that its frame number
was adopted at a slip. An ARM of this frame period waits for a later one. -/
def captureDue (slip : Bool) (s : State) : Bool :=
  s.capture.state == .armed && !s.marks.capture &&
  (match s.capture.trigger, s.capture.scheduled with
    | .immediate, _ => true
    | .withGenerator, _ => s.capture.triggered
    | .atFrame, some f =>
      let d := distance f s.ring.frameNumber
      d == 0 || (slip && !inReach d)
    | .atFrame, none => false)

/-- The capture's start where it is due (R176). -/
def captureStart (slip : Bool) (s : State) : State := if captureDue slip s then captureBegin s else s

/-- A value recorded at the index equal to the captured length (R177). -/
def recorded (x : Sample) (c : Capture) : Capture :=
  { c with words := Cells.write 0 c.words c.captured x, captured := c.captured + 1 }

/-- The value the point gives in a frame period (R174). -/
def pointValue (env : Env) (x : Vector Sample 24) (y : Vector Sample 16) (sent : Vector Sample 32) :
    CapturePoint → Sample
  | .input i => x[i]
  | .line j => y[j]
  | .output m => sent[m]
  | .slot n => match env.frame with
    | some f => slotSample f n.val
    | none => 0

/-- The recording of a frame period in RUNNING (R177). -/
def captureWork (v : Sample) (s : State) : State :=
  if s.capture.state = .running then { s with capture := recorded v s.capture } else s

/-- The capture's end as DONE (R177, R178). -/
def captureDone (s : State) : State := pulse .captureDone { s with capture := { s.capture with state := .done } }

/-- The end of a capture whose captured length has reached the wanted length (R177). -/
def captureEnd (s : State) : State :=
  if s.capture.state = .running ∧ s.capture.wanted ≤ s.capture.captured then captureDone s else s

/-- The state IDLE with nothing captured and no scheduled frame (R176, R178). -/
def captureIdle (c : Capture) : Capture := { c with state := .idle, captured := 0, scheduled := none, triggered := false }

/-- STOP_CAPTURE (R178). Before the recording that reaches the wanted length the capture still ends with
the full length, so that recording ends it. -/
def stopCapture (s : State) : State × Reply :=
  match s.capture.state with
  | .running =>
    if s.marks.early ∧ s.capture.wanted ≤ s.capture.captured + 1 then (s, { result := .done })
    else (captureDone s, { result := .done })
  | .armed => ({ s with capture := captureIdle s.capture }, { result := .done })
  | .idle | .done => refuse .nothing s

/-- An armed AT capture at a lock loss (R176). -/
def captureLockLoss (s : State) : State :=
  if s.capture.state = .armed ∧ s.capture.trigger = .atFrame then { s with capture := captureIdle s.capture } else s

/-- The capture at a warm reset; point, trigger, wanted length and words are kept (R174). -/
def captureWarmReset (s : State) : State := { s with capture := captureIdle s.capture }

/-- The generator at a warm reset (R169). -/
def generatorWarmReset (s : State) : State := { s with gen := idleGenerator }

end Sys2Proof.Machine
end

