-- ==== Sys2Proof/Machine/SceneEngine.lean ====
section
/-! DEFINITION. The Scene Engine: set check, compatibility, commits, clearing, install, cancel, copy and the
warm reset's self-CUT (R122 to R154). -/

namespace Sys2Proof.Machine

/-! ### The set check (R129) -/

/-- Line `j` of a bank is used and reaches beyond the pool. -/
def lineOutside (b : Bank) (j : Fin 16) : Bool :=
  lineUsed b j && decide (Config.poolWords < b.lines[j].base + b.lines[j].length)

/-- Two regions share a pool word. -/
def regionsOverlap (r q : LineRec) : Bool := decide (r.base < q.base + q.length) && decide (q.base < r.base + r.length)

/-- Line `j` is used and overlaps another used line. -/
def lineOverlaps (b : Bank) (j : Fin 16) : Bool :=
  lineUsed b j && (entries 16).any (fun k => k != j && lineUsed b k && regionsOverlap b.lines[j] b.lines[k])

/-- The feedback group that holds line `j` holds both used and unused lines. -/
def groupMixed (b : Bank) (j : Fin 16) : Bool :=
  let n := b.globals.order.size
  (entries 16).any (fun k => sameGroup n j k && lineUsed b k) && (entries 16).any (fun k => sameGroup n j k && !lineUsed b k)

/-- Entry `j` of LINES fails. -/
def lineFails (b : Bank) (j : Fin 16) : Bool := lineOutside b j || lineOverlaps b j || groupMixed b j

/-- Entry `n` of INJECTIONS fails: in use, and it names an unused line or repeats a lower entry in use. -/
def injectionFails (b : Bank) (n : Fin 128) : Bool :=
  let r := b.injections[n]
  r.input.isSome &&
    (!lineUsed b r.line ||
      (entries 128).any (fun k => decide (k < n) && b.injections[k].input == r.input && b.injections[k].line == r.line))

/-- Two runs of taps share a tap; an empty run overlaps nothing. -/
def runsOverlap (r q : OutputRec) : Bool :=
  r.tapCount != 0 && q.tapCount != 0 &&
    decide (r.firstTap < q.firstTap + q.tapCount) && decide (q.firstTap < r.firstTap + r.tapCount)

/-- Entry `m` of OUTPUTS fails. -/
def outputFails (b : Bank) (m : Fin 32) : Bool :=
  let r := b.outputs[m]
  decide (512 < r.firstTap + r.tapCount) ||
    (entries 32).any (fun k => decide (k < m) &&
      (runsOverlap r b.outputs[k] || (r.slot.isSome && b.outputs[k].slot == r.slot)))

/-- Entry `t` of TAPS fails: in some run, on an unused line or beyond its line's length. -/
def tapFails (b : Bank) (t : Fin 512) : Bool :=
  (entries 32).any (fun m => inRun b.outputs[m] t.val) &&
    (!lineUsed b b.taps[t].line || decide (b.lines[b.taps[t].line].length < b.taps[t].offset))

/-- The first entry of a table that fails, with its table's code. -/
def firstFailure {n : Nat} (code : Nat) (fails : Fin n → Bool) : Option (Nat × Nat) :=
  ((entries n).find? fails).map (fun i => (code, i.val))

/-- The set check: none where the bank passes, else the first failing table and index, in the order LINES,
INJECTIONS, OUTPUTS, TAPS. -/
def setCheck (b : Bank) : Option (Nat × Nat) :=
  (firstFailure 2 (lineFails b)).or
    ((firstFailure 1 (injectionFails b)).or ((firstFailure 4 (outputFails b)).or (firstFailure 3 (tapFails b))))

/-- Two banks are compatible when every structural field is equal in both (R131). -/
def compatible (b c : Bank) : Bool :=
  (entries 24).all (fun i => b.inputs[i].slot == c.inputs[i].slot) &&
  (entries 128).all (fun n => b.injections[n].input == c.injections[n].input && b.injections[n].line == c.injections[n].line) &&
  (entries 16).all (fun j => b.lines[j].base == c.lines[j].base && b.lines[j].length == c.lines[j].length &&
    b.lines[j].sign == c.lines[j].sign) &&
  (entries 512).all (fun t => b.taps[t].line == c.taps[t].line && b.taps[t].offset == c.taps[t].offset &&
    b.taps[t].sign == c.taps[t].sign) &&
  (entries 32).all (fun m => b.outputs[m].slot == c.outputs[m].slot && b.outputs[m].firstTap == c.outputs[m].firstTap &&
    b.outputs[m].tapCount == c.outputs[m].tapCount) &&
  b.globals.order == c.globals.order

/-! ### Execution of a commit -/

/-- The state with other engine fields. -/
def setEngine (e : Engine) (s : State) : State := { s with engine := e }

/-- The roles of the banks swapped; no contents move (R122). -/
def swapBanks (s : State) : State := { s with active := s.active.other }

/-- The engine back in STEADY with no operation and no scheduled frame. -/
def steadyEngine (s : State) : State :=
  setEngine { s.engine with state := .steady, operation := .none, scheduled := none } s

/-- A SMOOTH commit at its execution (R139). -/
def smoothSwap (s : State) : State := pulse .commitDone (steadyEngine (outputsSwap (swapBanks s)))

/-- A CUT at its execution: FADE_OUT, and a running burst stopped (R140). -/
def cutFadeOut (s : State) : State :=
  stopBurst (setEngine { s.engine with state := .fadeOut, scheduled := none } s)

/-- The execution of a commit of a mode (R138). -/
def execute (mode : CommitMode) (s : State) : State :=
  if mode = .auto ∧ compatible s.bankA s.bankB = true then smoothSwap s else cutFadeOut s

/-- The scheduled commit's distance has reached 0, or a slip has carried the number past F (R135, R136). -/
def commitDue (slip : Bool) (s : State) : Bool :=
  match s.engine.state, s.engine.scheduled with
  | .scheduled, some f =>
    let d := distance f s.ring.frameNumber
    d == 0 || (slip && !inReach d)
  | _, _ => false

/-- The execution of the commit under way, by its mode (R135). -/
def executeScheduled (s : State) : State :=
  match s.engine.state, s.engine.operation with
  | .scheduled, .commit mode => execute mode s
  | _, _ => s

/-- The start of a frame period in SCHEDULED (R135, R136). -/
def commitStart (slip : Bool) (s : State) : State := if commitDue slip s then executeScheduled s else s

/-! ### COMMIT (R134) -/

/-- The operation a COMMIT begins. -/
def beginCommit (mode : CommitMode) (s : State) : State := setEngine { s.engine with operation := .commit mode } s

/-- The tests 1 to 3 of a COMMIT. -/
def commitBusy (s : State) : Bool :=
  s.engine.state != .steady || writeReason s || recallReason s || recomputing s (pendingName s)

/-- COMMIT (R134, R135, R137). -/
def commit (mode : CommitMode) (timing : Timing) (s : State) : State × Reply :=
  if commitBusy s then refuse .busy s
  else match setCheck (pendingBank s) with
    | some d => (s, { result := .inconsistent, detail := some d })
    | none =>
      match timing with
      | .now => (execute mode (beginCommit mode s), { result := .done })
      | .atFrame f =>
        if inReach (distance f s.ring.frameNumber) then
          (setEngine { s.engine with state := .scheduled, operation := .commit mode, scheduled := some f } s,
           { result := .done })
        else refuse .range s

/-- The start-up commit on the engine's own account (R151). R93 and R151 expect no recompute to wait; where an
amendment written during the start-up recall has left one, that no commit is made is the model's choice (log 39). -/
def startUpCommit (s : State) : State :=
  if commitBusy s ∨ (setCheck (pendingBank s)).isSome = true then pulse .commitCancelled s
  else execute .auto (beginCommit .auto s)

/-! ### CANCEL (R147, R148) -/

/-- A commit withdrawn: STEADY, COMMIT_CANCELLED reported. -/
def cancelCommit (s : State) : State := pulse .commitCancelled (steadyEngine s)

/-- CANCEL by the table of R147. -/
def cancel (s : State) : State × Reply :=
  match s.engine.state, s.engine.operation with
  | .steady, _ => refuse .nothing s
  | .scheduled, _ => (cancelCommit s, { result := .done })
  | .fadeOut, .commit _ => (cancelCommit s, { result := .done })
  | .fadeOut, _ => refuse .late s
  | .clearing, _ => refuse .late s
  | .fadeIn, _ => refuse .late s

/-- The engine at a lock loss (R146). -/
def engineLockLoss (s : State) : State := if s.engine.state = .scheduled then cancelCommit s else s

/-! ### COPY (R150) -/

/-- The lines of a bank that wait or are in progress, ascending (R91). -/
def recomputedLines (s : State) (n : BankName) : List (Fin 16) :=
  (entries 16).filter (fun j =>
    s.decay.queue.contains (n, j) ||
      (match s.decay.current with | some e => e.bank == n && e.line == j | none => false))

/-- The active bank copied into the pending bank, recomputes adjusted (R91, R150). -/
def copyBank (s : State) : State :=
  let t := dropRecomputes s (pendingName s)
  let u := setBank t (pendingName s) (activeBank s)
  (recomputedLines s s.active).foldl (fun v j => appendRecompute v (pendingName s) j) u

/-- COPY (R150). -/
def copy (s : State) : State × Reply :=
  if pendingLocked s then refuse .locked s else (copyBank s, { result := .done })

/-! ### FADE_OUT, CLEARING and FADE_IN -/

/-- The condition of R142: FADE_OUT, every current at 1536 and a quiet run of 2. -/
def clearingDue (s : State) : Bool := s.engine.state == .fadeOut && allSilent s && s.engine.quiet == 2

/-- The engine starts the clearing and enters CLEARING (R142). -/
def clearingStart (s : State) : State := startClearing (setEngine { s.engine with state := .clearing } s)

/-- The condition of R145: FADE_IN and every current at its target. -/
def fadeInOver (mute : Bool) (s : State) : Bool := s.engine.state == .fadeIn && allAtTarget mute s

/-- COMMIT_DONE is due at the end of FADE_IN: a COMMIT, or a self-CUT that took one over (R145, R153). -/
def commitOwed (s : State) : Bool :=
  match s.engine.operation with
  | .commit _ => true
  | .reset => s.engine.owed
  | .none => false

/-- The end of FADE_IN (R145, R153). -/
def fadeInEnd (s : State) : State :=
  pulseIf (commitOwed s) .commitDone (setEngine { s.engine with state := .steady, operation := .none, owed := false } s)

/-- The engine on the Output Stage's report at a block boundary (step 5 of R98, R142, R145). -/
def engineBoundary (mute : Bool) (s : State) : State :=
  if clearingDue s then clearingStart s else if fadeInOver mute s then fadeInEnd s else s

/-- The install: the roles swap for a COMMIT and not for a self-CUT, every block is reset to the bank that
is then active, and the engine enters FADE_IN (R144, R153). -/
def install (s : State) : State :=
  let t := match s.engine.operation with
    | .commit _ => swapBanks s
    | .reset | .none => s
  setEngine { t.engine with state := .fadeIn } (outputsInstall (reverbInstall (inputsInstall t)))

/-- The completion of a clearing and the install it brings (R78, R143, R144). -/
def clearingComplete (s : State) : State :=
  let t := endClearing s
  if t.engine.state = .clearing then install t else t

/-- The 64th clearing frame period has ended (R78). -/
def clearingOver (s : State) : Bool := s.reverb.clearing && decide (Config.clearPeriods ≤ s.reverb.clearCount)

/-- The quiet run after a frame period whose samples were formed with the currents of `s` and the generator
samples `q` (R141). -/
def quietAfter (q : Vector Sample 32) (s : State) : Nat :=
  if allSilent s && (entries 32).all (fun m => q[m] == 0) then min (s.engine.quiet + 1) 2 else 0

/-- The engine's observation of a frame period (R141). -/
def quietWork (q : Vector Sample 32) (s : State) : State := setEngine { s.engine with quiet := quietAfter q s } s

/-! ### Warm reset (R152, R153) -/

/-- The commit under way at a warm reset (R152). -/
def resetCommit (s : State) : State :=
  match s.engine.state, s.engine.operation with
  | .scheduled, _ => pulse .commitCancelled s
  | .fadeOut, .commit _ => pulse .commitCancelled s
  | .clearing, .commit _ => pulse .commitCancelled s
  | .fadeIn, .commit _ => setEngine { s.engine with owed := true } s
  | _, _ => s

/-- The start of the self-CUT: CLEARING restarts its clearing, every other state enters FADE_OUT (R153). -/
def selfCut (s : State) : State :=
  let e := { s.engine with operation := .reset, scheduled := none }
  if s.engine.state = .clearing then startClearing (setEngine e s)
  else setEngine { e with state := .fadeOut } s

/-- The engine at a warm reset (R152, R153). -/
def engineWarmReset (s : State) : State := selfCut (resetCommit s)

end Sys2Proof.Machine
end

