-- ==== Sys2Proof/Machine/SceneStore.lean ====
section
/-! DEFINITION. The Scene Store: sectors, start record, operations, recalls with amendments, the power-on
scan and an operation cut short (R155 to R168, R202). -/

namespace Sys2Proof.Machine

/-! ### The nonvolatile memory (R202) -/

/-- The words a sector holds when an image has been written into it: the image and its check. -/
def sectorWords (image : List Word) : List Word := image ++ [word (check image)]

/-- A sector's memory with an image written into it, the words after the check erased. -/
def imageMemory (image : List Word) : Cells Word := Cells.writeList erasedWord [] 0 (sectorWords image)

/-- The 1,347 words of a sector's image. -/
def readImage (m : Cells Word) : List Word := (List.range 1347).map (Cells.read erasedWord m)

/-- The state of a sector by the power-on scan: wholly erased, matching its check, or neither. -/
def scanSector (m : Cells Word) : SectorState :=
  if m = [] then .empty
  else if Cells.read erasedWord m 1347 = word (check (readImage m)) then .valid
  else .corrupt

/-- The two data words of a start record. -/
def recordData (r : StartRecord) : List Word :=
  [word (place 0 8 (identityCode r.start)), word (place 0 16 (flagsNumber r.guarded.toList))]

/-- The three words of a start record. -/
def recordWords (r : StartRecord) : List Word := recordData r ++ [word (check (recordData r))]

/-- A start record's memory. -/
def recordMemory (r : StartRecord) : Cells Word := Cells.writeList erasedWord [] 0 (recordWords r)

/-- The start record of a memory where its check matches (R157, R202). A start sector code out of range is
taken as NONE (log 9). -/
def scanRecord (m : Cells Word) : Option StartRecord :=
  let w0 := Cells.read erasedWord m 0
  let w1 := Cells.read erasedWord m 1
  if Cells.read erasedWord m 2 = word (check [w0, w1]) then
    some ⟨(identity? 16 (field w0 0 8)).getD none, Vector.ofFn (fun n => bitOf w1 n.val)⟩
  else none

/-! ### Power-on scan and operations cut short (R157, R167) -/

/-- A sector of an operation cut short: each word as it was, or as it was to become (R157, log 7). -/
def cutSector (draws : Nat) (target : Cells Word) (m : Cells Word) : Cells Word :=
  Cells.writeList erasedWord [] 0 ((List.range 2048).map (fun k =>
    if Config.reached draws k then Cells.read erasedWord target k else Cells.read erasedWord m k))

/-- The sectors' memory where an erase or a write in progress, or a suspended erase, is cut short. -/
def cutMemory (s : State) : Vector (Cells Word) 16 :=
  let st := s.store
  let running := match st.state, st.sector with
    | .erasing, some n => changeAt st.memory n (cutSector s.draws [])
    | .writing, some n => changeAt st.memory n (cutSector s.draws (imageMemory st.image))
    | _, _ => st.memory
  match st.suspended with
  | some (n, _) => changeAt running n (cutSector s.draws [])
  | none => running

/-- A record whose check does not match: the words of a rewrite, its check word off by one (R157). -/
def brokenRecord (r : StartRecord) : Cells Word :=
  Cells.writeList erasedWord [] 0 (recordData r ++ [word (check (recordData r) + 1)])

/-- The start record's memory where a rewrite is cut short: as it was, as it was to become, or failing its
check (R157). -/
def cutRecord (s : State) : Cells Word :=
  match s.store.newRecord with
  | some r =>
    match Config.rewriteCut s.draws with
    | 0 => s.store.startMemory
    | 1 => recordMemory r
    | _ => brokenRecord r
  | none => s.store.startMemory

/-- The store with every operation ended where it stands: the suspended erase is lost, the memory is as
the operation left it (R157, R167). -/
def storeCutShort (s : State) : State :=
  { s with
    draws := s.draws + 1
    store := { s.store with
      memory := cutMemory s
      startMemory := cutRecord s
      state := .idle, sector := none, count := 0, image := [], newRecord := none, suspended := none, startUp := false } }

/-! ### Starting operations (R159) -/

/-- The store with an operation begun in this frame period. -/
def beginOperation (state : StoreState) (sector : Option (Fin 16)) (count : Nat) (s : State) : State :=
  { s with
    store := { s.store with state := state, sector := sector, count := count }
    marks := { s.marks with store := true } }

/-- The sector is in the protection list. -/
def isProtected (s : State) (n : Fin 16) : Bool := s.store.record.guarded[n]

/-- ERASE (R160). -/
def erase (code : Nat) (s : State) : State × Reply :=
  match number? 16 code with
  | none => refuse .range s
  | some n =>
    if s.store.state ≠ .idle then refuse .busy s
    else if isProtected s n then refuse .guarded s
    else (beginOperation .erasing (some n) Config.eraseBlocks s, { result := .done })

/-- WRITE (R161). -/
def write (code : Nat) (s : State) : State × Reply :=
  match number? 16 code with
  | none => refuse .range s
  | some n =>
    if s.store.state ≠ .idle then refuse .busy s
    else if isProtected s n then refuse .guarded s
    else if s.store.sectors[n] ≠ .empty then refuse .refused s
    else if engineReason s ∨ recomputing s (pendingName s) = true then refuse .busy s
    else
      let t := beginOperation .writing (some n) Config.writeBlocks s
      ({ t with store := { t.store with image := encodeBank (pendingBank s) } }, { result := .done })

/-- A RECALL may begin: the store is IDLE, or ERASING another sector (R162). -/
def recallOpen (s : State) (n : Fin 16) : Bool :=
  s.store.state == .idle || (s.store.state == .erasing && s.store.sector != some n)

/-- A recall accepted: the image read, the pending bank's recomputes removed, and a running erase suspended
with the count it holds (R90, R162, R164). -/
def beginRecall (n : Fin 16) (s : State) : State :=
  let suspended := match s.store.state, s.store.sector with
    | .erasing, some k => some (k, s.store.count)
    | _, _ => none
  let t := beginOperation (if s.store.state = .erasing then .eraseSuspended else .recalling) (some n) Config.recallBlocks
    (dropRecomputes s (pendingName s))
  { t with store := { t.store with image := readImage s.store.memory[n], suspended := suspended, startUp := false } }

/-- RECALL (R162). -/
def recallSector (code : Nat) (s : State) : State × Reply :=
  match number? 16 code with
  | none => refuse .range s
  | some n =>
    if recallOpen s n = false then refuse .busy s
    else if s.store.sectors[n] ≠ .valid then refuse .refused s
    else if engineReason s then refuse .locked s
    else (beginRecall n s, { result := .done })

/-- A rewrite of the start record begun, or NOTHING where it changes nothing (R165). -/
def rewrite (sector : Option (Fin 16)) (r : StartRecord) (s : State) : State × Reply :=
  if s.store.state ≠ .idle then refuse .busy s
  else if r = s.store.record then refuse .nothing s
  else
    let t := beginOperation .updating sector Config.rewriteBlocks s
    ({ t with store := { t.store with newRecord := some r } }, { result := .done })

/-- The start record with a sector in or out of the protection list. -/
def withProtection (r : StartRecord) (n : Fin 16) (b : Bool) : StartRecord := { r with guarded := setAt r.guarded n b }

/-- PROTECT (R165). -/
def protect (code : Nat) (s : State) : State × Reply :=
  match number? 16 code with
  | none => refuse .range s
  | some n => rewrite (some n) (withProtection s.store.record n true) s

/-- UNPROTECT (R165). -/
def unprotect (code : Nat) (s : State) : State × Reply :=
  match number? 16 code with
  | none => refuse .range s
  | some n => rewrite (some n) (withProtection s.store.record n false) s

/-- SET_START: a sector, or NONE by the code 255 (R165, R200). -/
def setStart (code : Nat) (s : State) : State × Reply :=
  match identity? 16 code with
  | none => refuse .range s
  | some start => rewrite start { s.store.record with start := start } s

/-! ### Ends of operations -/

/-- The store back in IDLE. -/
def storeIdle (s : State) : State :=
  { s with store := { s.store with
      state := .idle, sector := none, count := 0, image := [], newRecord := none, suspended := none, startUp := false } }

/-- What a sector holds after a failed verification: unknown words (R155, log 6). -/
def failedMemory (draws : Nat) : Cells Word :=
  Cells.writeList erasedWord [] 0 ((List.range 2048).map (Config.failedWord draws))

/-- A sector with its memory and its state in the sector table replaced. -/
def setSector (n : Fin 16) (m : Cells Word) (st : SectorState) (s : State) : State :=
  { s with store := { s.store with memory := setAt s.store.memory n m, sectors := setAt s.store.sectors n st } }

/-- The end of an ERASE of a sector, by its verification (R160). -/
def eraseEnd (ok : Bool) (n : Fin 16) (s : State) : State :=
  if ok then storeIdle (pulse .storeDone (setSector n [] .empty s))
  else storeIdle (pulse .storeFailed (setSector n (failedMemory s.draws) .failed s))

/-- The end of a WRITE into a sector, by its verification (R161). -/
def writeEnd (ok : Bool) (n : Fin 16) (s : State) : State :=
  if ok then storeIdle (pulse .storeDone (setSector n (imageMemory s.store.image) .valid s))
  else storeIdle (pulse .storeFailed (setSector n (failedMemory s.draws) .failed s))

/-- The end of a start-record rewrite, by its verification (R165). -/
def rewriteEnd (ok : Bool) (r : StartRecord) (s : State) : State :=
  if ok then storeIdle (pulse .storeDone { s with store := { s.store with startMemory := recordMemory r, record := r } })
  else storeIdle (pulse .storeFailed { s with store := { s.store with
    startMemory := Cells.writeList erasedWord [] 0 ((List.range 3).map (Config.failedWord s.draws)) } })

/-- The amendments that apply to a recall of a sector: in use, with that sector or ANY (R163). -/
def matching (s : State) (n : Fin 16) : List Amendment :=
  s.store.amendments.toList.filter (fun a => a.inUse && (a.sector.isNone || a.sector == some n))

/-- The image as stored, read over the pending bank (R163, R124). -/
def storedBank (s : State) : Bank := decodeBank (pendingBank s) s.store.image

/-- The new pending contents of a recall of a sector (step 1 of R163). -/
def recalledBank (s : State) (n : Fin 16) : Bank := finishAmended ((matching s n).foldl applyAmendment (storedBank s))

/-- The lines whose length or reverberation time the amendments changed from the stored value, ascending
(R90). -/
def amendedLines (s : State) (n : Fin 16) : List (Fin 16) :=
  (entries 16).filter (fun j =>
    (recalledBank s n).lines[j].length != (storedBank s).lines[j].length ||
      (recalledBank s n).lines[j].time != (storedBank s).lines[j].time)

/-- The pending bank replaced by the recalled contents and the recomputes appended (steps 2 and 3 of R163). -/
def replacePending (n : Fin 16) (s : State) : State :=
  (amendedLines s n).foldl (fun t j => appendRecompute t (pendingName s) j) (setBank s (pendingName s) (recalledBank s n))

/-- The store after a recall: a suspended erase resumes with the count it held, else IDLE (R163, R164). -/
def recallReleased (s : State) : State :=
  match s.store.suspended with
  | some (k, c) =>
    { s with store := { s.store with
        state := .erasing, sector := some k, count := c, image := [], suspended := none, startUp := false } }
  | none => storeIdle s

/-- The completion of a recall of a sector; the start-up recall is followed by the start-up commit (R163,
R151). The order in which its reports join the notice queue is the model's choice (log 37). -/
def recallEnd (n : Fin 16) (s : State) : State :=
  let t := recallReleased (pulse .storeDone (replacePending n s))
  if s.store.startUp then startUpCommit t else t

/-- A recall may replace the pending bank: the engine is in STEADY or FADE_IN (R128). -/
def recallMayEnd (s : State) : Bool := !engineReason s

/-- The end of the operation in progress, whose count has reached 0. A verification's outcome is a free
value (log 6); a recall that R128 holds stays in progress. -/
def operationEnd (s : State) : State :=
  let ok := Config.verifies s.draws
  match s.store.state, s.store.sector with
  | .erasing, some n => eraseEnd ok n s
  | .writing, some n => writeEnd ok n s
  | .recalling, some n => if recallMayEnd s then recallEnd n s else s
  | .eraseSuspended, some n => if recallMayEnd s then recallEnd n s else s
  | .updating, _ =>
    match s.store.newRecord with
    | some r => rewriteEnd ok r s
    | none => storeIdle s
  | _, _ => s

/-- The store's count falls by 1. -/
def countDown (s : State) : State := { s with store := { s.store with count := s.store.count - 1 } }

/-- The store's work of a block boundary: an operation accepted or resumed in an earlier frame period is counted, and
at 0 it ends (R159). -/
def storeBoundary (s : State) : State :=
  if s.store.state = .idle ∨ s.marks.store = true then s
  else
    let t := countDown s
    if t.store.count = 0 then operationEnd t else t

/-- A recall held under R128 completes as the engine enters FADE_IN, after the install. An erase that it resumes is not
counted at a boundary of that frame period (R164). -/
def releaseHeldRecall (s : State) : State :=
  if recallReason s ∧ s.store.count = 0 ∧ s.engine.state = .fadeIn then
    operationEnd { s with marks := { s.marks with store := true } }
  else s

/-! ### Power-on (R157, R158) -/

/-- The sector table and the start record as the scan finds them; a damaged record is reported (R157). -/
def powerOnScan (s : State) : State :=
  let t := { s with store := { s.store with
    sectors := changeAll s.store.memory (fun _ m => scanSector m)
    record := (scanRecord s.store.startMemory).getD defaultRecord } }
  pulseIf (scanRecord s.store.startMemory).isNone .storeFailed t

/-- The start-up recall, where the start sector was found VALID (R158). -/
def startUpRecall (s : State) : State :=
  match s.store.record.start with
  | some n =>
    if s.store.sectors[n] = .valid then
      let t := beginRecall n s
      { t with store := { t.store with startUp := true } }
    else s
  | none => s

/-- Power-on reset: every block at its power-on state, the straps read, the store scanned, and the start-up
recall begun (R37, R157, R158, R203). The nonvolatile memory is kept; an operation still in progress is
cut short. -/
def powerOn (straps : Nat) (s : State) : State :=
  let cut := storeCutShort s
  let base := { State.reset with
    node := { State.reset.node with number := straps % 16 }
    store := { State.reset.store with memory := cut.store.memory, startMemory := cut.store.startMemory }
    notices := ⟨Vector.replicate 15 false, []⟩
    draws := cut.draws
    pending := s.pending }
  withEdges startUpRecall (powerOnScan base)

/-- Power loss: every operation ended where it stands, the suspended erase and the amendment list lost
(R167). The part is then without supply. -/
def loseSupply (s : State) : State :=
  let t := storeCutShort s
  { t with powered := false, store := { t.store with amendments := Vector.replicate 8 defaultAmendment } }

end Sys2Proof.Machine
end

