-- ==== Sys2Proof/Machine/Manage.lean ====
section
/-! DEFINITION. The Management Handler: pointer, table access, status record, malformed cells, warm reset,
and the execution of a request with its answer (R180 to R191, R193, R198 to R200). -/

namespace Sys2Proof.Machine

/-! ### Codes (R200) -/

def ResultCode.code : ResultCode → Nat
  | .done => 0
  | .clamped => 1
  | .busy => 2
  | .locked => 3
  | .refused => 4
  | .range => 5
  | .inconsistent => 6
  | .guarded => 7
  | .nothing => 8
  | .late => 9

def LockState.code : LockState → Nat
  | .unlocked => 0
  | .acquiring => 1
  | .locked => 2

def BankName.code : BankName → Nat
  | .a => 0
  | .b => 1

def View.code : View → Nat
  | .active => 0
  | .pending => 1

def AdmissionState.code : AdmissionState → Nat
  | .unbound => 0
  | .absent => 1
  | .qualifying => 2
  | .admitted => 3

def GuardState.code : GuardState → Nat
  | .watch => 0
  | .ducked => 1
  | .recovering => 2

def EngineState.code : EngineState → Nat
  | .steady => 0
  | .scheduled => 1
  | .fadeOut => 2
  | .clearing => 3
  | .fadeIn => 4

def StoreState.code : StoreState → Nat
  | .idle => 0
  | .erasing => 1
  | .writing => 2
  | .recalling => 3
  | .eraseSuspended => 4
  | .updating => 5

def SectorState.code : SectorState → Nat
  | .empty => 0
  | .valid => 1
  | .failed => 2
  | .corrupt => 3

def CaptureState.code : CaptureState → Nat
  | .idle => 0
  | .armed => 1
  | .running => 2
  | .done => 3

/-! ### The pointer (R182, R183) -/

/-- A view by its code. -/
def view? (code : Nat) : Option View :=
  if code = 0 then some .active else if code = 1 then some .pending else none

/-- The pointer that an AIM names, none where R183 refuses it. -/
def pointer? (view table index step : Nat) : Option Pointer :=
  match view? view, table? table with
  | some v, some t => if step ≤ 1 ∧ index < t.size then some ⟨v, t, index, step⟩ else none
  | _, _ => none

/-- AIM (R183). -/
def aim (view table index step : Nat) (s : State) : State × Reply :=
  match pointer? view table index step with
  | some p => ({ s with pointer := p }, { result := .done })
  | none => refuse .range s

/-- The pointer laid out as the AIM parameter word (R200). -/
def pointerWord (p : Pointer) : Word :=
  word (place 0 1 p.view.code + place 1 1 p.step + place 8 8 p.table.code + place 16 13 p.index)

/-- WHERE (R183). -/
def wherePointer (s : State) : State × Reply := (s, { result := .done, payload := [pointerWord s.pointer] })

/-- The pointer advanced by its step (R184). -/
def advance (s : State) : State := { s with pointer := { s.pointer with index := s.pointer.index + s.pointer.step } }

/-! ### Writing one entry (R185, R186, R187) -/

/-- What the write of an entry gives: the code of its refusal, or the state and whether it was clamped. -/
abbrev Written := Except ResultCode (State × Bool)

/-- A record written into entry `i` of a table of bank `n`. R124's refusal comes first; a live write is
then refused unless the structure is equal; `after` is what the write brings beside itself (R185). -/
def writeEntry {α : Type} {k : Nat} (get : Bank → Vector α k) (put : Bank → Vector α k → Bank) (live : Bool)
    (n : BankName) (t : Treated α) (equal : α → α → Bool) (merge : α → α → α)
    (after : Fin k → α → α → State → State) (i : Nat) (s : State) : Written :=
  match t with
  | none => .error .range
  | some (r, clamped) =>
    if h : i < k then
      let j : Fin k := ⟨i, h⟩
      let b := bankOf s n
      let old := (get b)[j]
      if live && !equal old r then .error .refused
      else .ok (after j old (merge old r) (setBank s n (put b (setAt (get b) j (merge old r)))), clamped)
    else .error .range

/-- Nothing beside the write itself. -/
def nothingAfter {α : Type} {k : Nat} (_ : Fin k) (_ _ : α) (s : State) : State := s

/-- The record carried, unchanged. -/
def carried {α : Type} (_ r : α) : α := r

/-- A LINES record keeps its two computed fields (R124). -/
def keepDecay (old r : LineRec) : LineRec := { r with decay := old.decay, clamp := old.clamp }

/-- A changed length or reverberation time appends a recompute (R86). -/
def lineAfter (n : BankName) (j : Fin 16) (old r : LineRec) (s : State) : State :=
  if old.length ≠ r.length ∨ old.time ≠ r.time then appendRecompute s n j else s

/-- A live write that changes an output's profile resets its guard (R107). -/
def outputAfter (live : Bool) (m : Fin 32) (old r : OutputRec) (s : State) : State :=
  if live = true ∧ old.profile ≠ r.profile then resetGuard m s else s

/-- A live write of a profile reaches the guards that use it (R100). -/
def profileAfter (live : Bool) (p : Fin 4) (_ _ : ProfileRec) (s : State) : State :=
  if live then profileWritten p s else s

/-- A live write of the GLOBALS record reaches the backoff controller (R112). -/
def globalsAfter (live : Bool) (s : State) : State :=
  if live then { s with backoff := fitBackoff (activeBank s).globals s.backoff } else s

/-- A GLOBALS record written into bank `n`; the matrix order is its one structural field (R185). -/
def writeGlobals (live : Bool) (n : BankName) (ws : List Word) (s : State) : Written :=
  match decodeGlobals ws with
  | none => .error .range
  | some (r, clamped) =>
    let b := bankOf s n
    if live && b.globals.order != r.order then .error .refused
    else .ok (globalsAfter live (setBank s n { b with globals := r }), clamped)

/-- A record written into a bank table through a view. `live` says that the view is ACTIVE; structural
fields are compared as carried, the tap count before its clamp (R185). -/
def writeBank (t : BankTable) (v : View) (i : Nat) (ws : List Word) (s : State) : Written :=
  let live := v == .active
  let n := viewName s v
  match t with
  | .inputs =>
    writeEntry Bank.inputs (fun b x => { b with inputs := x }) live n (decodeInput ws)
      (fun o r => o.slot == r.slot) carried nothingAfter i s
  | .injections =>
    writeEntry Bank.injections (fun b x => { b with injections := x }) live n (decodeInjection ws)
      (fun o r => o.input == r.input && o.line == r.line) carried nothingAfter i s
  | .lines =>
    writeEntry Bank.lines (fun b x => { b with lines := x }) live n (decodeLine ws)
      (fun o r => o.base == r.base && o.length == r.length && o.sign == r.sign) keepDecay (lineAfter n) i s
  | .taps =>
    writeEntry Bank.taps (fun b x => { b with taps := x }) live n (decodeTap ws)
      (fun o r => o.line == r.line && o.offset == r.offset && o.sign == r.sign) carried nothingAfter i s
  | .outputs =>
    writeEntry Bank.outputs (fun b x => { b with outputs := x }) live n (decodeOutput ws)
      (fun o r => o.slot == r.slot && o.firstTap == r.firstTap && o.tapCount == carriedTapCount ws) carried
      (outputAfter live) i s
  | .profiles =>
    writeEntry Bank.profiles (fun b x => { b with profiles := x }) live n (decodeProfile ws)
      (fun _ _ => true) carried (profileAfter live) i s
  | .globals => writeGlobals live n ws s

/-- A record written into the amendment list (R166, R186). -/
def writeAmendment (i : Nat) (ws : List Word) (s : State) : Written :=
  match decodeAmendment ws with
  | .error r => .error r
  | .ok (a, clamped) =>
    .ok ({ s with store := { s.store with amendments := changeEntry s.store.amendments i (fun _ => a) } }, clamped)

/-- A record written into an entry of the pointer's table. -/
def writeTable (p : Pointer) (ws : List Word) (s : State) : Written :=
  match p.table with
  | .bank t => writeBank t p.view p.index ws s
  | .amendments => writeAmendment p.index ws s
  | .node => .ok ({ s with node := (writeNode s.node ws).1 }, (writeNode s.node ws).2)
  | .inputState | .lineState | .outputState | .counters | .capture | .sectors => .error .refused

/-! ### Reading one entry (R185 to R187) -/

/-- An entry of a table written out, nothing where it does not exist. -/
def entryWords {α : Type} {k : Nat} (t : Vector α k) (i : Nat) (f : Fin k → α → List Word) : List Word :=
  if h : i < k then f ⟨i, h⟩ t[i] else []

/-- An entry of a bank table. -/
def readBank (b : Bank) (t : BankTable) (i : Nat) : List Word :=
  match t with
  | .inputs => entryWords b.inputs i (fun _ => encodeInput)
  | .injections => entryWords b.injections i (fun _ => encodeInjection)
  | .lines => entryWords b.lines i (fun _ => encodeLine)
  | .taps => entryWords b.taps i (fun _ => encodeTap)
  | .outputs => entryWords b.outputs i (fun _ => encodeOutput)
  | .profiles => entryWords b.profiles i (fun _ => encodeProfile)
  | .globals => encodeGlobals b.globals

/-- An INPUT_STATE entry (R39). -/
def inputStateWords (u : InputUnit) : List Word :=
  [word (place 0 8 u.state.code + place 8 8 u.qualify + place 16 8 u.invalidRun), word (place 0 16 u.current)]

/-- A LINE_STATE entry (R82). -/
def lineStateWords (s : State) (j : Fin 16) : List Word :=
  let b := activeBank s
  [word (placeBit 31 (lineUsed b j) + place 0 16 s.reverb.position[j]),
   pairWord b.lines[j].decay s.reverb.lineCurrent[j], word (place 0 16 s.reverb.applied[j]),
   sampleWord s.reverb.lastEnd[j]]

/-- An OUTPUT_STATE entry of an output (R121). -/
def outputStateWords (s : State) (m : Fin 32) : List Word :=
  let u := s.outputs[m]
  [pairWord (outputTarget s m) u.current,
   word (place 0 24 u.lastPeak + place 24 2 u.guard.state.code + placeBit 31 (activeBank s).outputs[m].slot.isSome),
   word (place 0 16 u.guard.g + place 16 8 u.guard.count), pairWord u.guard.hold u.guard.recovery]

/-- The entry of the backoff controller, entry 32 of OUTPUT_STATE (R121). -/
def backoffWords (b : Backoff) : List Word :=
  [word (place 0 16 b.level), word (place 0 16 b.hold), word (place 0 16 b.interval), 0]

/-- The activity of a sector as its code: NONE, ERASING, ERASE_SUSPENDED, WRITING, RECALLING (R168). -/
def activityCode (st : Store) (n : Fin 16) : Nat :=
  match st.suspended with
  | some (k, _) => if k = n then 2 else if st.sector = some n then 4 else 0
  | none =>
    if st.sector = some n then
      match st.state with
      | .erasing => 1
      | .writing => 3
      | .recalling | .eraseSuspended => 4
      | .idle | .updating => 0
    else 0

/-- The stored scene name, for a VALID sector that no ERASE is taking away (R168). -/
def storedName (st : Store) (n : Fin 16) : List Word :=
  let a := activityCode st n
  if st.sectors[n] = .valid ∧ a ≠ 1 ∧ a ≠ 2 then
    nameWords (untilEnd (bytesOf ((List.range 4).map (fun k => Cells.read erasedWord st.memory[n] (1343 + k)))))
  else nameWords []

/-- A SECTORS entry of a sector (R168). -/
def sectorEntryWords (st : Store) (n : Fin 16) : List Word :=
  word (place 0 8 st.sectors[n].code + place 8 8 (activityCode st n) + placeBit 16 st.record.guarded[n] +
    placeBit 17 (st.record.start == some n)) :: storedName st n

/-- The SECTORS entry of the start record, entry 16 (R168). -/
def startRecordWords (st : Store) : List Word :=
  [word (place 0 8 (identityCode st.record.start) + placeBit 8 (st.state == .updating)), 0, 0, 0, 0]

/-- A counter entry in the order of R199. -/
def counterValue (s : State) (i : Nat) : Nat :=
  match i with
  | 0 => s.ring.badFrames
  | 1 => s.ring.flaggedFrames
  | 2 => s.ring.lockLosses
  | 3 => s.badCells
  | n + 4 =>
    if h : n < 24 then s.inputs[n].invalid
    else if h : n - 24 < 16 then s.reverb.lineClips[n - 24]
    else if h : n - 40 < 32 then s.outputs[n - 40].clips
    else 0

/-- The state with a counter entry at 0 (R187, R199). -/
def clearCounter (i : Nat) (s : State) : State :=
  match i with
  | 0 => { s with ring := { s.ring with badFrames := 0 } }
  | 1 => { s with ring := { s.ring with flaggedFrames := 0 } }
  | 2 => { s with ring := { s.ring with lockLosses := 0 } }
  | 3 => { s with badCells := 0 }
  | n + 4 =>
    if n < 24 then { s with inputs := changeEntry s.inputs n (fun u => { u with invalid := 0 }) }
    else if n - 24 < 16 then
      { s with reverb := { s.reverb with lineClips := changeEntry s.reverb.lineClips (n - 24) (fun _ => 0) } }
    else { s with outputs := changeEntry s.outputs (n - 40) (fun u => { u with clips := 0 }) }

/-- What the read of an entry gives: the code of its refusal, or the state and the record's words. -/
abbrev Taken := Except ResultCode (State × List Word)

/-- The read of a CAPTURE entry (R179). -/
def readCapture (i : Nat) (s : State) : Taken :=
  match s.capture.state with
  | .armed | .running => .error .busy
  | .done | .idle =>
    if i < s.capture.captured then .ok (s, [sampleWord (Cells.read 0 s.capture.words i)]) else .error .range

/-- A record read from an entry of the pointer's table. -/
def readTable (p : Pointer) (s : State) : Taken :=
  match p.table with
  | .bank t => .ok (s, readBank (bankOf s (viewName s p.view)) t p.index)
  | .amendments => .ok (s, entryWords s.store.amendments p.index (fun _ => encodeAmendment))
  | .node => .ok (s, encodeNode s.node)
  | .inputState => .ok (s, entryWords s.inputs p.index (fun _ => inputStateWords))
  | .lineState => .ok (s, entryWords s.reverb.position p.index (fun j _ => lineStateWords s j))
  | .outputState =>
    .ok (s, if p.index = 32 then backoffWords s.backoff
      else entryWords s.outputs p.index (fun m _ => outputStateWords s m))
  | .counters => .ok (clearCounter p.index s, [word (place 0 16 (counterValue s p.index))])
  | .capture => readCapture p.index s
  | .sectors =>
    .ok (s, if p.index = 16 then startRecordWords s.store
      else entryWords s.store.sectors p.index (fun n _ => sectorEntryWords s.store n))

/-! ### PUT and TAKE (R184) -/

/-- The pointer stands one past the last entry. -/
def pastEnd (p : Pointer) : Bool := decide (p.table.size ≤ p.index)

/-- The records of a PUT written in order, `done` of them already, until one is refused. -/
def putRecords : List (List Word) → Nat → Bool → State → State × Reply
  | [], done, clamped, s => (s, { result := if clamped then .clamped else .done, count := done })
  | r :: rs, done, clamped, s =>
    if pastEnd s.pointer then (s, { result := .range, count := done })
    else match writeTable s.pointer r s with
      | .error code => (s, { result := code, count := done })
      | .ok (t, c) => putRecords rs (done + 1) (clamped || c) (advance t)

/-- The records carried by a PUT: as many as its count says, each of the table's size (R200). -/
def recordsOf (size count : Nat) (payload : List Word) : List (List Word) :=
  (List.range count).map (fun k => (payload.drop (k * size)).take size)

/-- The pointer's table is a bank table in the PENDING view: the one a lock closes (R185). -/
def pendingTable (p : Pointer) : Bool :=
  match p.table, p.view with
  | .bank _, .pending => true
  | _, _ => false

/-- PUT (R184, R185). -/
def put (count : Nat) (payload : List Word) (s : State) : State × Reply :=
  if pendingTable s.pointer && pendingLocked s then refuse .locked s
  else putRecords (recordsOf s.pointer.table.words count payload) 0 false s

/-- Records read in order, `done` of them already, until one is refused. -/
def takeRecords : Nat → Nat → List Word → State → State × Reply
  | 0, done, ws, s => (s, { result := .done, count := done, payload := ws })
  | n + 1, done, ws, s =>
    if pastEnd s.pointer then (s, { result := .range, count := done, payload := ws })
    else match readTable s.pointer s with
      | .error code => (s, { result := code, count := done, payload := ws })
      | .ok (t, r) => takeRecords n (done + 1) (ws ++ r) (advance t)

/-- TAKE (R184). -/
def take (count : Nat) (s : State) : State × Reply := takeRecords count 0 [] s

/-! ### Malformed cells (R190) -/

/-- A PUT or TAKE of `count` records of the pointer's table is malformed. -/
def malformed (count : Nat) (p : Pointer) : Bool :=
  count == 0 || decide (4 < count) || decide (12 < count * p.table.words)

/-- A malformed cell: counted, reported and answered REFUSED. -/
def badCell (s : State) : State × Reply :=
  (pulse .badCell { s with badCells := bump s.badCells }, { result := .refused })

/-! ### STATUS (R189, R198) -/

/-- The status record's six words (R200). Where the scheduled frame is NONE, bits 23 to 0 of its word are 0, the
model's choice (log 41). -/
def statusWords (s : State) : List Word :=
  [word (place 0 2 s.ring.lock.code + place 2 1 s.active.code + place 4 3 s.engine.state.code +
      placeBit 7 s.gen.running + place 8 3 s.store.state.code + place 12 2 s.capture.state.code),
   word (place 0 24 s.ring.frameNumber),
   (match s.engine.scheduled with
    | some f => word (place 0 24 f)
    | none => word (placeBit 31 true)),
   word (place 0 8 (identityCode s.store.sector) + place 16 13 s.capture.captured),
   word (place 0 9 s.backoff.level + place 16 6 (outputsNotInWatch s) + place 24 6 (recomputeLength s)),
   word (place 0 15 (flagsNumber s.notices.flags.toList) + place 16 6 (flagsNumber (levelKinds.map (levelHigh s))) +
      place 24 4 s.notices.queue.length)]

/-- STATUS (R189). -/
def status (s : State) : State × Reply := (s, { result := .done, payload := statusWords s })

/-! ### GUARD_RESET, CLEAR_FLAGS, RESET_NODE -/

/-- GUARD_RESET: an output, or ALL by the code 255 (R108). -/
def guardReset (code : Nat) (s : State) : State × Reply :=
  match identity? 32 code with
  | none => refuse .range s
  | some none => (resetGuards s, { result := .done })
  | some (some m) => (resetGuard m s, { result := .done })

/-- The flags that a mask names cleared (R193). -/
def clearFlagged (mask : Nat) (s : State) : State :=
  { s with notices := { s.notices with flags := changeAll s.notices.flags (fun k b => b && !mask.testBit k.val) } }

/-- CLEAR_FLAGS (R193). -/
def clearFlags (mask : Nat) (s : State) : State × Reply :=
  if mask % 2 ^ 15 = 0 then refuse .nothing s else (clearFlagged mask s, { result := .done })

/-- The Ring Interface at a warm reset: its three counters 0 (R37). -/
def ringWarmReset (s : State) : State :=
  { s with ring := { s.ring with badFrames := 0, flaggedFrames := 0, lockLosses := 0 } }

/-- The Management Handler at a warm reset (R182, R190). -/
def handlerWarmReset (s : State) : State := { s with pointer := homePointer, badCells := 0 }

/-- The warm reset of every block, after the Notice Unit's clearing (R191, R197). -/
def warmReset (s : State) : State :=
  engineWarmReset (captureWarmReset (generatorWarmReset (outputsWarmReset (reverbWarmReset (inputsWarmReset
    (handlerWarmReset (ringWarmReset (clearNotices s))))))))

/-- RESET_NODE (R191). -/
def resetNode (s : State) : State × Reply := (warmReset s, { result := .done })

/-! ### The request taken -/

/-- What each request does and answers, by the rule that owns it (R180, R188). -/
def requestOp (r : Request) (s : State) : State × Reply :=
  match r with
  | .aim view table index step => aim view table index step s
  | .wherePointer => wherePointer s
  | .put count payload => if malformed count s.pointer then badCell s else put count payload s
  | .take count => if malformed count s.pointer then badCell s else take count s
  | .status => status s
  | .badCell _ => badCell s
  | .commit mode timing => commit mode timing s
  | .cancel => cancel s
  | .copy => copy s
  | .recallSector n => recallSector n s
  | .write n => write n s
  | .erase n => erase n s
  | .protect n => protect n s
  | .unprotect n => unprotect n s
  | .setStart n => setStart n s
  | .guardReset m => guardReset m s
  | .fire kind target level length => fire kind target level length s
  | .stopGenerator => stopGenerator s
  | .arm kind number trigger length frame => arm kind number trigger length frame s
  | .stopCapture => stopCapture s
  | .clearFlags mask => clearFlags mask s
  | .resetNode => resetNode s

/-- The answer to a request (R180). -/
def answerOf (h : Header) (r : Request) (s : State) (reply : Reply) : Answer where
  node := s.node.number
  tag := h.tag
  kind := r.kindCode
  result := reply.result
  count := reply.count
  detail := reply.detail
  payload := reply.payload

/-- The node executes a request of this header: it is LOCKED, and it is named or the cell is a broadcast
(R34, R180). While the reset pin is held it takes none (R203). -/
def executes (h : Header) (s : State) : Bool :=
  s.powered && !s.resetPin && s.ring.lock == .locked && (h.target == s.node.number || h.broadcast)

/-- A request executed: the operation, the edges it causes, and the answer, which leaves only where the
node is the target (R180). -/
def serve (h : Header) (r : Request) (s : State) : State :=
  let o := requestOp r s
  let t := edges s o.1
  { t with out := { t.out with answer := if h.target = s.node.number then some (answerOf h r s o.2) else none } }

/-- A request as the node meets it: served, or not examined at all (R34, R190). -/
def handle (h : Header) (r : Request) (s : State) : State := if executes h s then serve h r s else s

/-! ### The cells the node builds (R200) -/

/-- A cell of 14 words: two header words and a payload filled with zeros. -/
def cellWords (w0 w1 : Word) (payload : List Word) : List Word := w0 :: w1 :: payload12 payload

/-- The detail word of an ANSWER: the failing table and index, or 255 in the table field for NONE, with an index of 0
then, the model's choice (log 41). -/
def detailWord : Option (Nat × Nat) → Word
  | some (t, i) => word (place 8 8 t + place 16 13 i)
  | none => word (place 8 8 255)

/-- An ANSWER cell. -/
def answerCell (a : Answer) : List Word :=
  cellWords
    (word (place 0 2 2 + place 4 4 a.node + place 8 4 a.kind + place 12 4 a.result.code + place 16 3 a.count +
      place 24 8 a.tag))
    (detailWord a.detail) a.payload

/-- The code of a last edge. -/
def Edge.code : Edge → Nat
  | .none => 0
  | .rise => 1
  | .fall => 2

/-- The code of a present state. -/
def PresentState.code : PresentState → Nat
  | .low => 0
  | .high => 1
  | .none => 2

/-- A NOTICE cell of a node. -/
def noticeCell (node : Nat) (e : NoticeEntry) (p : PresentState) : List Word :=
  cellWords
    (word (place 0 2 3 + place 4 4 node + place 8 8 e.kind.code.val + place 16 8 e.count + place 24 2 e.edge.code +
      place 26 2 p.code))
    (word (place 0 24 e.first)) []

end Sys2Proof.Machine
end

