-- ==== Sys2Proof/Machine/Ring.lean ====
section
/-! DEFINITION. The Ring Interface: counters, the lock machine, lock loss, and the outgoing copy (R18 to R37). -/

namespace Sys2Proof.Machine

/-! ### The lock machine -/

/-- The state with other ring fields. -/
def setRing (r : Ring) (s : State) : State := { s with ring := r }

/-- A frame counted by its class, in every lock state (R36). -/
def countClass (c : FrameClass) (r : Ring) : Ring :=
  match c with
  | .good => r
  | .flagged => { r with flaggedFrames := bump r.flaggedFrames }
  | .bad => { r with badFrames := bump r.badFrames }

/-- What every arrival brings first: signal present, the gap over, the class counted, and nothing yet put
on the ring for it (R21, R36). -/
def present (c : FrameClass) (s : State) : State :=
  { s with ring := { countClass c s.ring with signal := true, gap := 0 }, out := ⟨none, none, none⟩ }

/-- UNLOCKED with no run (R23). -/
def toUnlocked (r : Ring) : Ring := { r with lock := .unlocked, acqRun := 0 }

/-- The start of an acquisition (R22). -/
def startAcquiring (n : Nat) (r : Ring) : Ring := { r with lock := .acquiring, acqRun := 1, acqRef := n }

/-- The lock machine in UNLOCKED (R22). -/
def unlockedArrival (c : FrameClass) (n : Nat) (r : Ring) : Ring :=
  match c with
  | .good => startAcquiring n r
  | .flagged | .bad => r

/-- A good frame's number is the one ACQUIRING expects (R23). -/
def expectedRef (n : Nat) (r : Ring) : Bool := n == nextFrame r.acqRef

/-- The arrival completes acquisition: the run reaches 48 (R23, R24). -/
def completesRun (c : FrameClass) (n : Nat) (r : Ring) : Bool :=
  c == .good && expectedRef n r && decide (Config.acquireRun ≤ r.acqRun + 1)

/-- The lock machine in ACQUIRING at an arrival that does not complete the run (R23). -/
def acquiringArrival (c : FrameClass) (n : Nat) (r : Ring) : Ring :=
  match c with
  | .good => if expectedRef n r then { r with acqRun := r.acqRun + 1, acqRef := n } else toUnlocked r
  | .flagged => { r with acqRef := nextFrame r.acqRef }
  | .bad => toUnlocked r

/-- LOCKED entered at a frame of number `n` (R24). That the acquisition run is 0 and the reference the adopted number
from then on, and the run 0 again at a lock loss, is the model's choice (log 42): R23 gives them a meaning in
ACQUIRING only. -/
def lockAt (n : Nat) (s : State) : State :=
  setRing { s.ring with lock := .locked, errors := 0, goodRun := 0, acqRun := 0, acqRef := n, frameNumber := n } s

/-- A good frame in sequence counted in LOCKED; the 1,024th forgives the errors (R25). -/
def goodCounted (r : Ring) : Ring :=
  if Config.forgiveRun ≤ r.goodRun + 1 then { r with errors := 0, goodRun := 0 } else { r with goodRun := r.goodRun + 1 }

/-- An error counted (R26, R27). -/
def errorCounted (r : Ring) : Ring := { r with goodRun := 0, errors := r.errors + 1 }

/-- The next error ends lock (R26). -/
def lastError (s : State) : Bool := decide (s.node.threshold ≤ s.ring.errors + 1)

/-- The ring's own part of a lock loss (R29). That the acquisition run is 0 after it is the model's choice (log 42). -/
def ringLockLoss (s : State) : State :=
  setRing { s.ring with lock := .unlocked, errors := 0, goodRun := 0, acqRun := 0, lockLosses := bump s.ring.lockLosses } s

/-- A lock loss with what each block told of it does (R29). -/
def lockLost (s : State) : State :=
  captureLockLoss (engineLockLoss (stopBurst (outputsLockLoss (inputsLockLoss (ringLockLoss s)))))

/-- A lock loss, with the edges it causes. R29 gives its effects no order among themselves: that COMMIT_CANCELLED
joins the notice queue before the edges is the model's choice (log 37). -/
def lockLoss (s : State) : State := withEdges lockLost s

/-- Signal loss (R21): the flag clears, and the lock state drops to UNLOCKED. -/
def signalLost (s : State) : State :=
  let t := setRing { s.ring with signal := false, gap := 0 } s
  match s.ring.lock with
  | .locked => lockLoss t
  | .acquiring => setRing (toUnlocked t.ring) t
  | .unlocked => t

/-! ### The outgoing copy -/

/-- A copy with the samples of a set in the slots that the active bank's outputs are bound to (R30). -/
def writeOwnSlots (b : Bank) (set : Vector Sample 32) (f : Frame) : Frame :=
  (entries 32).foldl (fun g m =>
    match b.outputs[m].slot with
    | some n => writeSlot g n.val set[m]
    | none => g) f

/-- A copy with the upstream-error flag that its class demands (R30, R32). -/
def flagCopy (c : FrameClass) (f : Frame) : Frame :=
  match c with
  | .good | .flagged => f
  | .bad => setUpstreamError f

/-- A copy with the cell that R34 or R35 settles: this node's answer, its notice, or the cell as received. -/
def settleCell (node : Nat) (o : Outgoing) (f : Frame) : Frame :=
  match o.answer, o.notice with
  | some a, _ => withCell f (answerCell a)
  | none, some (e, p) => withCell f (noticeCell node e p)
  | none, none => f

/-- The copy sent while the node is not LOCKED (R32). -/
def forwardUnlocked (c : FrameClass) (f : Frame) : Frame := sealFrame (flagCopy c f)

/-- The copy sent in LOCKED: own slots with the set at the front of the hand-off line, flag, cell and check
(R30, R31). -/
def forwardLocked (c : FrameClass) (b : Bank) (set : Vector Sample 32) (node : Nat) (o : Outgoing) (f : Frame) : Frame :=
  sealFrame (settleCell node o (flagCopy c (writeOwnSlots b set f)))

/-- The state with a frame sent. -/
def send (f : Frame) (s : State) : State := { s with out := { s.out with frame := some f } }

end Sys2Proof.Machine
end

