-- ==== Sys2Proof/Machine/Period.lean ====
section
/-! DEFINITION. A frame period: the work of every block, and the orders in which it may be taken.

The manual orders the work of one block and leaves, where a rule says "either may be taken first", the
order among blocks and of the frame's request open. A frame period is a fold of `Task`s over a list that
the free values of log 2 choose among the admissible ones. -/

namespace Sys2Proof.Machine

/-- The pieces of a frame period. `event` is the frame's cell, or the lock loss that the frame brings. -/
inductive Task where
  | relockEdge
  | commitStart
  | captureStart
  | decay
  | ramps
  | outputs
  | store
  | work
  | burstEnd
  | captureEnd
  | clearingEnd
  | missingEdge
  | event
deriving DecidableEq, Repr

/-- The start of a frame period: its marks, and one more draw. -/
def beginPeriod (s : State) : State :=
  { s with
    started := true
    draws := s.draws + 1
    marks := ⟨true, s.marks.store && !s.started, false, false, some (inputMissing s), s.backoff.level⟩ }

/-- The frame period is a block boundary (R20). -/
def isBoundary (s : State) : Bool := s.ring.frameNumber % 64 == 0

/-! ### The per-sample work -/

/-- The line ends as the Capture Buffer is handed them: 0 in a clearing frame period (R77). -/
def lineEnds (s : State) : Vector Sample 16 := Vector.ofFn (fun j => if clearingPeriod s then 0 else lineEnd s j)

/-- The B that the line writes of a frame period use (R65, log 4). -/
def levelUsed (s : State) : Nat := if Config.writesBeforeBackoff s.draws then s.marks.backoff else s.backoff.level

/-- The end of a clearing, with the install it brings (R78, R144). -/
def clearingOff (s : State) : State := if clearingOver s then clearingComplete s else s

/-- The end of a frame period's clearing, and of a recall that its install releases (R163). -/
def clearingEnd (s : State) : State := releaseHeldRecall (clearingOff s)

/-- The install of this frame period is taken before its input samples: it is the last clearing frame period of
the engine's CLEARING, and the free value takes the install first (R51, R143, log 18). -/
def installsFirst (s : State) : Bool :=
  s.engine.state == .clearing && clearingPeriod s && decide (Config.clearPeriods ≤ s.reverb.clearCount + 1) &&
    Config.installFirst s.draws

/-- The state in which the Input Stage takes the samples of the frame period (R51). Where the install comes first, a
recall that R128 holds completes right after it, so nothing of the frame period comes between them (R163). -/
def samplingState (s : State) : State := if installsFirst s then clearingEnd (reverbClear s) else s

/-- The core's work of a frame period with the Input Stage's before it; where the install comes first, the
core's clearing has come before that (R48, R51, R60). -/
def inputsAndCore (env : Env) (boundary : Bool) (s : State) : State :=
  if installsFirst s then inputsWork env boundary (samplingState s)
  else reverbWork (Vector.ofFn (inputSample env boundary s)) (levelUsed s) (inputsWork env boundary s)

/-- The per-sample work of every block in a frame period (R48, R60, R95, R141, R172, R177). -/
def sampleWork (env : Env) (boundary : Bool) (s : State) : State :=
  let x := Vector.ofFn (inputSample env boundary (samplingState s))
  let q := generatorSamples s.gen
  let sent := Vector.ofFn (sentSample q s)
  let v := pointValue env x (lineEnds s) sent s.capture.point
  let t := outputsWork q s (generatorWork (inputsAndCore env boundary s))
  let u := quietWork q (captureWork v (handOff sent t))
  { u with marks := { u.marks with early := false } }

/-! ### The tasks -/

/-- The cell of a good frame in LOCKED: a REQUEST is met, an IDLE cell is offered (R34, R35). -/
def takeCell (f : Frame) (s : State) : State :=
  match decodeCell (cellOf f) with
  | some (h, r) => handle h r s
  | none => if cellKind (cellOf f) = 0 then offerIdle s else s

/-- The event a frame brings: a lock loss, or its cell. -/
def takeEvent (env : Env) (s : State) : State :=
  if env.loss then lockLoss s
  else match env.frame with
    | some f => if env.usable then takeCell f s else s
    | none => s

/-- Lock mute as the work of a block boundary sees it: a relock may be taken after that work (R116, log 5). -/
def boundaryMute (env : Env) (s : State) : Bool := lockMute s || (env.relock && !Config.relockFirst s.draws)

/-- The Output Stage's work of a block boundary and the engine's on its report, in the order of R98. The edges of
each step join the notice queue after its pulses, the model's choice (log 37). -/
def outputsBoundary (mute : Bool) (s : State) : State :=
  withEdges (engineBoundary mute) (outputsRamp mute (withEdges evaluateGuards (withEdges backoffStep (blockPeaks s))))

/-- The rise of RING_LOCKED in the frame period of a relock (R24). -/
def relockEdge (env : Env) (s : State) : State := if env.relock then report .ringLocked .rise s else s

/-- A task done. -/
def runTask (env : Env) (boundary : Bool) (k : Task) (s : State) : State :=
  match k with
  | .relockEdge => relockEdge env s
  | .commitStart => withEdges (commitStart env.slip) s
  | .captureStart => captureStart env.slip s
  | .decay => decayBoundary s
  | .ramps => reverbRamp (inputsRamp s)
  | .outputs => outputsBoundary (boundaryMute env s) s
  | .store => withEdges storeBoundary s
  | .work => withEdges (sampleWork env boundary) s
  | .burstEnd => burstBegin (burstEnd s)
  | .captureEnd => captureEnd s
  | .clearingEnd => withEdges clearingEnd s
  | .missingEdge => missingEdge s
  | .event => takeEvent env s

/-! ### The orders -/

/-- A task put into a list at a place. -/
def insertTask (k : Task) (n : Nat) (ts : List Task) : List Task := ts.take n ++ k :: ts.drop n

/-- The orders of the calculator, the input and core ramps, and the Output Stage at a block boundary. -/
def boundaryOrder (n : Nat) : List Task :=
  match n with
  | 0 => [.decay, .ramps, .outputs]
  | 1 => [.decay, .outputs, .ramps]
  | 2 => [.ramps, .decay, .outputs]
  | 3 => [.ramps, .outputs, .decay]
  | 4 => [.outputs, .decay, .ramps]
  | _ => [.outputs, .ramps, .decay]

/-- The work of a frame period in order `n`: at a block boundary the store's work stands before, between or
after the others' or after the per-sample work. -/
def middle (boundary : Bool) (n : Nat) : List Task :=
  if boundary then
    insertTask .store (n % 5) (boundaryOrder (n / 5 % 6) ++ [.work])
  else [.work]

/-- The two starts of a frame period, in either order (R135, R176). -/
def starts (n : Nat) : List Task := if n / 30 % 2 = 0 then [.commitStart, .captureStart] else [.captureStart, .commitStart]

/-- The tasks of a frame period in order `n`, the frame's event at place `e` among them. The edge of RING_LOCKED
at a relock and that of INPUT_MISSING may come before the event or after it (R193, R196, R197), but a warm reset
changes the inputs, so the edge of INPUT_MISSING comes after one (R52, R53). A capture and a clearing that end in
one frame period both end "at the end of that frame period" (R177, R78, R144), in no order: that CAPTURE_DONE joins
the notice queue before the install's edges and the STORE_DONE of a recall the install releases is the model's
choice (log 37); an install taken before the input samples (log 18) has its reports, those of the recall among them,
before it. -/
def plan (boundary resets : Bool) (n e : Nat) : List Task :=
  let ts := .relockEdge :: starts n ++ middle boundary n ++ [.burstEnd, .captureEnd, .clearingEnd, .missingEdge]
  insertTask .event (e % (ts.length + if resets then 0 else 1)) ts

/-- The frame's cell is a RESET_NODE. -/
def resetsNode (env : Env) : Bool :=
  match env.frame with
  | some f =>
    match decodeCell (cellOf f) with
    | some (_, .resetNode) => env.usable
    | _ => false
  | none => false

/-- The tasks of a list done one after another. -/
def runTasks (env : Env) (boundary : Bool) (ts : List Task) (s : State) : State :=
  ts.foldl (fun t k => runTask env boundary k t) s

/-- A frame period; its frame number stands already. -/
def framePeriod (env : Env) (s : State) : State :=
  let t := beginPeriod s
  runTasks env (isBoundary t)
    (plan (isBoundary t) (resetsNode env) (Config.taskOrder t.draws) (Config.eventPoint t.draws)) t

/-! ### The frame periods of the oscillator and of the ring -/

/-- The frame number of the next oscillator frame period: 0 for the first after power-on (R19, R37). -/
def oscillatorNumber (s : State) : Nat := if s.started then nextFrame s.ring.frameNumber else 0

/-- A frame period of the local oscillator (R19). -/
def oscillatorPeriod (s : State) : State :=
  framePeriod oscillatorEnv (setRing { s.ring with frameNumber := oscillatorNumber s } s)

/-- The gap since the last arrival counted by one oscillator frame period; the fourth is signal loss (R21). -/
def countGap (s : State) : State :=
  if s.ring.signal then
    if Config.lossGap ≤ s.ring.gap + 1 then signalLost s else setRing { s.ring with gap := s.ring.gap + 1 } s
  else s

/-- A frame period of the local oscillator: taken where the node is not LOCKED, and counted in the gap in
every state (R19, R21). -/
def oscillator (s : State) : State :=
  countGap (if s.ring.lock = .locked then { s with out := ⟨none, none, none⟩ }
    else oscillatorPeriod { s with out := ⟨none, none, none⟩ })

/-- The frame period of an arrival in LOCKED with a frame number, and the outgoing copy of it (R25 to R28,
R30, R32). A frame that ends lock is forwarded as in UNLOCKED. -/
def ringPeriod (c : FrameClass) (f : Frame) (env : Env) (s : State) : State :=
  let t := framePeriod env s
  send (if env.loss then forwardUnlocked c f
    else forwardLocked c (activeBank s) s.ring.handFront s.node.number t.out f) t

/-- The environment of an arrival in LOCKED. -/
def arrivalEnv (f : Frame) (usable slip relock loss : Bool) : Env := ⟨some f, usable, slip, relock, loss⟩

/-- A good frame in sequence in LOCKED (R25). -/
def goodArrival (f : Frame) (s : State) : State :=
  ringPeriod .good f (arrivalEnv f true false false false)
    (setRing { goodCounted s.ring with frameNumber := nextFrame s.ring.frameNumber } s)

/-- A slip in LOCKED (R27). -/
def slipArrival (f : Frame) (s : State) : State :=
  if lastError s then
    ringPeriod .good f (arrivalEnv f false false false true)
      (setRing { errorCounted s.ring with frameNumber := nextFrame s.ring.frameNumber } s)
  else
    ringPeriod .good f (arrivalEnv f true true false false)
      (setRing { errorCounted s.ring with frameNumber := frameNumberOf f } s)

/-- A bad frame in LOCKED (R26). -/
def badArrival (f : Frame) (s : State) : State :=
  ringPeriod .bad f (arrivalEnv f false false false (lastError s))
    (setRing { errorCounted s.ring with frameNumber := nextFrame s.ring.frameNumber } s)

/-- A flagged frame in LOCKED (R28). -/
def flaggedArrival (f : Frame) (s : State) : State :=
  ringPeriod .flagged f (arrivalEnv f false false false false)
    (setRing { s.ring with frameNumber := nextFrame s.ring.frameNumber } s)

/-- An arrival in LOCKED, by its class and number (R18, R25 to R28). -/
def lockedArrival (c : FrameClass) (f : Frame) (s : State) : State :=
  match c with
  | .good => if frameNumberOf f = nextFrame s.ring.frameNumber then goodArrival f s else slipArrival f s
  | .flagged => flaggedArrival f s
  | .bad => badArrival f s

/-- The arrival that completes acquisition, the first frame period of LOCKED (R24). The rise of RING_LOCKED is
reported in its frame period, before or after what its cell brings (`relockEdge`, log 2). -/
def relockArrival (f : Frame) (s : State) : State :=
  ringPeriod .good f (arrivalEnv f true false true false) (lockAt (frameNumberOf f) s)

/-- An arrival while the reset pin is not held (R18 to R36). -/
def arrive (f : Frame) (s : State) : State :=
  let c := classify f
  let n := frameNumberOf f
  let t := present c s
  match s.ring.lock with
  | .unlocked => send (forwardUnlocked c f) (setRing (unlockedArrival c n t.ring) t)
  | .acquiring =>
    if completesRun c n t.ring then relockArrival f t
    else send (forwardUnlocked c f) (setRing (acquiringArrival c n t.ring) t)
  | .locked => lockedArrival c f t

end Sys2Proof.Machine
end

