-- ==== Sys2Proof/Machine/Surroundings.lean ====
section
/-! DEFINITION. The meanings of the commands of the part's surroundings: pins, arrivals, oscillator, supply. -/

namespace Sys2Proof.Machine

/-- What a command answers: always a next state. -/
abbrev Result := Host.Outcome State Fault Refusal

/-- The part works: it has its supply and its reset pin is not held (R37, R203). -/
def working (s : State) : Bool := s.powered && !s.resetPin

/-- POWER_ON_RESET, at supply start or at the release of the reset pin (R37, R157, R158, R203). -/
def execPowerOnReset (straps : Nat) (s : State) : Result := .next (powerOn straps s)

/-- RESET_PIN_ASSERT: from now on frames are forwarded exactly as received and no request is taken (R32,
R203). The pin of a part without supply has nothing to hold. -/
def execResetPinAssert (s : State) : Result := .next (if s.powered then { s with resetPin := true } else s)

/-- ARRIVAL (R18). While the reset pin is held the frame leaves exactly as received (R32). -/
def execArrival (f : Frame) (s : State) : Result :=
  .next (if !s.powered then s else if s.resetPin then { s with out := ⟨none, none, some f⟩ } else arrive f s)

/-- OSCILLATOR_FRAME_PERIOD (R19, R21). -/
def execOscillatorFramePeriod (s : State) : Result := .next (if working s then oscillator s else s)

/-- SIGNAL_LOSS: the four oscillator frame periods have passed without an arrival while the flag was set
(R21). With the flag clear there is none to lose. -/
def execSignalLoss (s : State) : Result := .next (if working s && s.ring.signal then signalLost s else s)

/-- POWER_LOSS (R167). -/
def execPowerLoss (s : State) : Result := .next (if s.powered then loseSupply s else s)

end Sys2Proof.Machine
end

