-- ==== Sys2Proof/Machine/Events.lean ====
section
/-! DEFINITION. The meanings of the part's own events, given one by one.

Inside a frame period these events come about by themselves (Machine/Period.lean). Given as a command,
an event brings its own cause with it and is taken where the state is one step short of it; where it
cannot come about, the command changes nothing (log 10). -/

namespace Sys2Proof.Machine

/-- An event taken where it can come about, with the edges it causes. That the command does nothing else of the frame
period, the arrival or the block boundary that brings the event is the model's choice (log 10). -/
def happens (due : Bool) (f : State → State) (s : State) : Result :=
  .next (if working s && due then withEdges f s else s)

/-! ### The Ring Interface -/

/-- The next good frame in sequence completes acquisition (R24). -/
def lockAcquiredDue (s : State) : Bool := s.ring.lock == .acquiring && decide (Config.acquireRun ≤ s.ring.acqRun + 1)

/-- LOCK_ACQUIRED: the number adopted is the one ACQUIRING expects (R24). The arrival it stands for is a frame
period, so the frame number counts on from the adopted one even where none came before it (R19, R29, log 16).That the
command leaves the signal-present flag and the gap as they stand (R21), and does no work of a block boundary where it
adopts a multiple of 64 (R20), is the model's choice (log 10): both are the ARRIVAL's. -/
def execLockAcquired (s : State) : Result :=
  happens (lockAcquiredDue s) (fun t => { lockAt (nextFrame t.ring.acqRef) t with started := true }) s

/-- The next good frame in sequence completes the good run (R25). -/
def goodRunDue (s : State) : Bool := s.ring.lock == .locked && decide (Config.forgiveRun ≤ s.ring.goodRun + 1)

/-- GOOD_RUN_COMPLETE (R25). That the command moves neither the frame number nor the gap with the good frame it brings
is the model's choice (log 10): both are the ARRIVAL's. -/
def execGoodRunComplete (s : State) : Result :=
  happens (goodRunDue s) (setRing { s.ring with errors := 0, goodRun := 0 }) s

/-- LOCK_LOSS (R29). That the command counts no error and moves neither the frame number nor the gap is the model's
choice (log 10): it names no frame. -/
def execLockLoss (s : State) : Result := happens (s.ring.lock == .locked) lockLost s

/-! ### The Input Stage -/

/-- The next usable sample admits the input (R41, R42). -/
def admissionDue (s : State) (i : Fin 24) : Bool :=
  let r := (activeBank s).inputs[i]
  let u := s.inputs[i]
  s.ring.lock == .locked && r.slot.isSome &&
    ((u.state == .absent && decide (r.admitCount ≤ 1)) ||
      (u.state == .qualifying && decide (r.admitCount ≤ u.qualify + 1)))

/-- INPUT_ADMISSION: the input enters ADMITTED at a current of 1536 (R44). -/
def execInputAdmission (i : Fin 24) (s : State) : Result :=
  happens (admissionDue s i) (fun t => { t with inputs := changeAt t.inputs i (admitted Config.silence) }) s

/-- The next unusable sample drops the input (R46). -/
def dropDue (s : State) (i : Fin 24) : Bool :=
  s.inputs[i].state == .admitted && decide ((activeBank s).inputs[i].dropLimit < s.inputs[i].invalidRun + 1)

/-- INPUT_DROP: the sample that drops the input is counted, and the input enters ABSENT (R46). -/
def execInputDrop (i : Fin 24) (s : State) : Result :=
  happens (dropDue s i)
    (fun t => { t with inputs := changeAt t.inputs i (substituted (activeBank s).inputs[i].dropLimit) }) s

/-! ### Test Generator and Capture Buffer -/

/-- BURST_END: the last sample of the burst is formed, replacing the noise state of a NOISE burst, and the
generator is READY (R172). -/
def execBurstEnd (s : State) : Result :=
  happens (s.gen.running && decide (s.gen.remaining ≤ 1)) (fun t => { t with gen := lastSample t.gen }) s

/-- An armed capture has a trigger frame period to reach (R176). -/
def captureStartDue (c : Capture) : Bool :=
  c.state == .armed && (c.trigger != .withGenerator || c.triggered)

/-- CAPTURE_START (R176). -/
def execCaptureStart (s : State) : Result := happens (captureStartDue s.capture) captureBegin s

/-- The next recording reaches the wanted length (R177). -/
def captureCompleteDue (c : Capture) : Bool := c.state == .running && decide (c.wanted ≤ c.captured + 1)

/-- CAPTURE_COMPLETE: the last value is recorded, and the capture is DONE (R177). -/
def execCaptureComplete (value : Sample) (s : State) : Result :=
  happens (captureCompleteDue s.capture) (fun t => captureDone { t with capture := recorded value t.capture }) s

/-! ### The Output Stage -/

/-- An output has a guard profile of which a test holds. -/
def profileTest (s : State) (m : Fin 32) (test : ProfileRec → OutputUnit → Bool) : Bool :=
  match profileOf (activeBank s) m with
  | some p => test p s.outputs[m]
  | none => false

/-- GUARD_DETECTION (R102, R103). -/
def execGuardDetection (m : Fin 32) (s : State) : Result :=
  happens (profileTest s m detects) (fun t => evaluateAt t m) s

/-- GUARD_HOLD_EXPIRY (R105). -/
def execGuardHoldExpiry (m : Fin 32) (s : State) : Result :=
  happens (profileTest s m holdExpires) (fun t => evaluateAt t m) s

/-- GUARD_RECOVERY_STEP (R106). -/
def execGuardRecoveryStep (m : Fin 32) (s : State) : Result :=
  happens (profileTest s m recoverySteps) (fun t => evaluateAt t m) s

/-- BACKOFF_INTERVAL_EXPIRY (R111). -/
def execBackoffIntervalExpiry (s : State) : Result := happens (intervalExpires s) backoffStep s

/-! ### The Decay Calculator -/

/-- DECAY_TAKE (R87). -/
def execDecayTake (s : State) : Result := happens true decayTake s

/-- DECAY_COMPLETION (R88). -/
def execDecayCompletion (s : State) : Result := happens true decayCompletion s

/-! ### The Scene Engine -/

/-- COMMIT_EXECUTION (R135, R136, R138). -/
def execCommitExecution (s : State) : Result := happens (s.engine.state == .scheduled) executeScheduled s

/-- CLEARING_START (R142). -/
def execClearingStart (s : State) : Result := happens (clearingDue s) clearingStart s

/-- The present clearing frame period is the 64th (R77, R78). -/
def lastClearing (s : State) : Bool := s.reverb.clearing && decide (Config.clearPeriods ≤ s.reverb.clearCount + 1)

/-- CLEARING_COMPLETE: the 64th clearing frame period ends, with its words zeroed, the install and the recall
that the install releases (R77, R78, R144, R163). -/
def execClearingComplete (s : State) : Result :=
  happens (lastClearing s) (fun t => releaseHeldRecall (clearingComplete (reverbClear t))) s

/-- FADE_IN_END (R145). -/
def execFadeInEnd (s : State) : Result := happens (fadeInOver (lockMute s) s) fadeInEnd s

/-! ### The Scene Store -/

/-- The store is at the last block of an operation of one of some states (R159). -/
def lastBlock (s : State) (during : Bool) : Bool := during && decide (s.store.count ≤ 1)

/-- The end of the operation in progress, with a free value drawn for its verification. -/
def endOperation (s : State) : State := operationEnd { s with draws := s.draws + 1, store := { s.store with count := 0 } }

/-- ERASE_COMPLETION (R160). -/
def execEraseCompletion (s : State) : Result := happens (lastBlock s (s.store.state == .erasing)) endOperation s

/-- WRITE_COMPLETION (R161). -/
def execWriteCompletion (s : State) : Result := happens (lastBlock s (s.store.state == .writing)) endOperation s

/-- RECALL_COMPLETION (R163); in the engine states of R128 the recall is held and does not complete. -/
def execRecallCompletion (s : State) : Result := happens (lastBlock s (recallReason s) && recallMayEnd s) endOperation s

/-- START_RECORD_REWRITE_END (R165). -/
def execStartRecordRewriteEnd (s : State) : Result := happens (lastBlock s (s.store.state == .updating)) endOperation s

end Sys2Proof.Machine
end

