-- ==== Sys2Proof/Machine/Requests.lean ====
section
/-! DEFINITION. The meanings of the requests, each met as R34 states: executed where the node is LOCKED and
named or the cell is a broadcast, and otherwise not examined. A request given as a command belongs to the
frame period last begun, whose per-sample work is done (log 11). -/

namespace Sys2Proof.Machine

/-- AIM (R183). -/
def execAim (h : Header) (view table index step : Nat) (s : State) : Result := .next (handle h (.aim view table index step) s)

/-- WHERE (R183). -/
def execWhere (h : Header) (s : State) : Result := .next (handle h .wherePointer s)

/-- PUT (R184 to R187). -/
def execPut (h : Header) (count : Nat) (payload : List Word) (s : State) : Result := .next (handle h (.put count payload) s)

/-- TAKE (R184 to R187). -/
def execTake (h : Header) (count : Nat) (s : State) : Result := .next (handle h (.take count) s)

/-- STATUS (R189, R198). -/
def execStatus (h : Header) (s : State) : Result := .next (handle h .status s)

/-- BAD_CELL (R190). -/
def execBadCell (h : Header) (kind : Nat) (s : State) : Result := .next (handle h (.badCell kind) s)

/-- COMMIT (R134 to R140). -/
def execCommit (h : Header) (mode : CommitMode) (timing : Timing) (s : State) : Result := .next (handle h (.commit mode timing) s)

/-- CANCEL (R147, R148). -/
def execCancel (h : Header) (s : State) : Result := .next (handle h .cancel s)

/-- COPY (R91, R150). -/
def execCopy (h : Header) (s : State) : Result := .next (handle h .copy s)

/-- RECALL (R162, R164). -/
def execRecall (h : Header) (sector : Nat) (s : State) : Result := .next (handle h (.recallSector sector) s)

/-- WRITE (R161). -/
def execWrite (h : Header) (sector : Nat) (s : State) : Result := .next (handle h (.write sector) s)

/-- ERASE (R160). -/
def execErase (h : Header) (sector : Nat) (s : State) : Result := .next (handle h (.erase sector) s)

/-- PROTECT (R165). -/
def execProtect (h : Header) (sector : Nat) (s : State) : Result := .next (handle h (.protect sector) s)

/-- UNPROTECT (R165). -/
def execUnprotect (h : Header) (sector : Nat) (s : State) : Result := .next (handle h (.unprotect sector) s)

/-- SET_START (R165). -/
def execSetStart (h : Header) (sector : Nat) (s : State) : Result := .next (handle h (.setStart sector) s)

/-- GUARD_RESET (R107, R108). -/
def execGuardReset (h : Header) (output : Nat) (s : State) : Result := .next (handle h (.guardReset output) s)

/-- FIRE (R170, R171). -/
def execFire (h : Header) (kind target level length : Nat) (s : State) : Result := .next (handle h (.fire kind target level length) s)

/-- STOP_GENERATOR (R173). -/
def execStopGenerator (h : Header) (s : State) : Result := .next (handle h .stopGenerator s)

/-- ARM (R175). -/
def execArm (h : Header) (pointKind pointNumber trigger length frame : Nat) (s : State) : Result := .next (handle h (.arm pointKind pointNumber trigger length frame) s)

/-- STOP_CAPTURE (R178). -/
def execStopCapture (h : Header) (s : State) : Result := .next (handle h .stopCapture s)

/-- CLEAR_FLAGS (R193). -/
def execClearFlags (h : Header) (mask : Nat) (s : State) : Result := .next (handle h (.clearFlags mask) s)

/-- RESET_NODE (R191). -/
def execResetNode (h : Header) (s : State) : Result := .next (handle h .resetNode s)

end Sys2Proof.Machine
end

