-- ==== Sys2Proof/Machine/Dispatch.lean ====
section
/-! DEFINITION. The meaning of every command: one arm per row of the table, one call per arm. -/

namespace Sys2Proof.Machine

def exec (i : Instr) (s : State) : Host.Outcome State Fault Refusal :=
  match i with
  | .powerOnReset straps => Sys2Proof.Machine.execPowerOnReset straps s
  | .resetPinAssert => Sys2Proof.Machine.execResetPinAssert s
  | .arrival frame => Sys2Proof.Machine.execArrival frame s
  | .oscillatorFramePeriod => Sys2Proof.Machine.execOscillatorFramePeriod s
  | .signalLoss => Sys2Proof.Machine.execSignalLoss s
  | .lockAcquired => Sys2Proof.Machine.execLockAcquired s
  | .goodRunComplete => Sys2Proof.Machine.execGoodRunComplete s
  | .lockLoss => Sys2Proof.Machine.execLockLoss s
  | .inputAdmission input => Sys2Proof.Machine.execInputAdmission input s
  | .inputDrop input => Sys2Proof.Machine.execInputDrop input s
  | .burstEnd => Sys2Proof.Machine.execBurstEnd s
  | .captureStart => Sys2Proof.Machine.execCaptureStart s
  | .captureComplete value => Sys2Proof.Machine.execCaptureComplete value s
  | .guardDetection output => Sys2Proof.Machine.execGuardDetection output s
  | .guardHoldExpiry output => Sys2Proof.Machine.execGuardHoldExpiry output s
  | .guardRecoveryStep output => Sys2Proof.Machine.execGuardRecoveryStep output s
  | .backoffIntervalExpiry => Sys2Proof.Machine.execBackoffIntervalExpiry s
  | .decayTake => Sys2Proof.Machine.execDecayTake s
  | .decayCompletion => Sys2Proof.Machine.execDecayCompletion s
  | .commitExecution => Sys2Proof.Machine.execCommitExecution s
  | .clearingStart => Sys2Proof.Machine.execClearingStart s
  | .clearingComplete => Sys2Proof.Machine.execClearingComplete s
  | .fadeInEnd => Sys2Proof.Machine.execFadeInEnd s
  | .eraseCompletion => Sys2Proof.Machine.execEraseCompletion s
  | .writeCompletion => Sys2Proof.Machine.execWriteCompletion s
  | .recallCompletion => Sys2Proof.Machine.execRecallCompletion s
  | .startRecordRewriteEnd => Sys2Proof.Machine.execStartRecordRewriteEnd s
  | .aim header view table index step => Sys2Proof.Machine.execAim header view table index step s
  | .wherePointer header => Sys2Proof.Machine.execWhere header s
  | .put header count payload => Sys2Proof.Machine.execPut header count payload s
  | .take header count => Sys2Proof.Machine.execTake header count s
  | .status header => Sys2Proof.Machine.execStatus header s
  | .badCell header kind => Sys2Proof.Machine.execBadCell header kind s
  | .commit header mode timing => Sys2Proof.Machine.execCommit header mode timing s
  | .cancel header => Sys2Proof.Machine.execCancel header s
  | .copy header => Sys2Proof.Machine.execCopy header s
  | .recallSector header sector => Sys2Proof.Machine.execRecall header sector s
  | .write header sector => Sys2Proof.Machine.execWrite header sector s
  | .erase header sector => Sys2Proof.Machine.execErase header sector s
  | .protect header sector => Sys2Proof.Machine.execProtect header sector s
  | .unprotect header sector => Sys2Proof.Machine.execUnprotect header sector s
  | .setStart header sector => Sys2Proof.Machine.execSetStart header sector s
  | .guardReset header output => Sys2Proof.Machine.execGuardReset header output s
  | .fire header kind target level length => Sys2Proof.Machine.execFire header kind target level length s
  | .stopGenerator header => Sys2Proof.Machine.execStopGenerator header s
  | .arm header pointKind pointNumber trigger length frame => Sys2Proof.Machine.execArm header pointKind pointNumber trigger length frame s
  | .stopCapture header => Sys2Proof.Machine.execStopCapture header s
  | .clearFlags header mask => Sys2Proof.Machine.execClearFlags header mask s
  | .resetNode header => Sys2Proof.Machine.execResetNode header s
  | .powerLoss => Sys2Proof.Machine.execPowerLoss s

end Sys2Proof.Machine
end

