-- ==== Sys2Proof/Machine/Step.lean ====
section
/-! DEFINITION. A step takes the command at the front of the queue. -/

namespace Sys2Proof.Machine

/-- A command executed with the rest of the queue behind it. -/
def execFront (c : Instr) (rest : List Instr) (s : State) : Result := exec c { s with pending := rest }

/-- The step: the first waiting command; with none waiting, the part idles (log 1). -/
def step (s : State) : Host.Outcome State Fault Refusal :=
  match s.pending with
  | [] => .next s
  | c :: rest => execFront c rest s

/-- The state with the command that a table word spells put at the front of the queue; a word that spells
none leaves it as it is. No row of the table gives bits, so none ever does. -/
def State.withFetchWord (s : State) (nbits w : Nat) : State :=
  match decodeTableWord nbits w with
  | some c => { s with pending := c :: s.pending }
  | none => s

end Sys2Proof.Machine
end

