-- ==== Sys2Proof/Safety.lean ====
section
/-! DEFINITION. The words in which claims speak: when a request is executed, what an answer leaves, and which
states are legal. Each legality is an invariant of the step; the rules cited give the ranges. -/

namespace Sys2Proof.Machine

/-! ### Requests -/

/-- The part works and the node executes a request of this header (R34, R180, R203). -/
structure Heard (h : Header) (s : State) : Prop where
  powered : s.powered = true
  free    : s.resetPin = false
  locked  : s.ring.lock = .locked
  named   : h.target = s.node.number ∨ h.broadcast = true

/-- The part works: supply present, reset pin not held. -/
structure Works (s : State) : Prop where
  powered : s.powered = true
  free    : s.resetPin = false

/-- The state with the answer of a request as the outgoing cell will carry it: only the node the request
names answers (R180). -/
def answered (h : Header) (kind : Nat) (reply : Reply) (s : State) : State :=
  { s with out := { s.out with
      answer := if h.target = s.node.number then
        some ⟨s.node.number, h.tag, kind, reply.result, reply.count, reply.detail, reply.payload⟩ else none } }

/-- Two states that differ at most in the Notice Unit. -/
def SameButNotices (s t : State) : Prop := t = { s with notices := t.notices }

/-- Two states that differ at most in the Notice Unit and in the answer. -/
def SameButReports (s t : State) : Prop :=
  t = { s with notices := t.notices, out := { s.out with answer := t.out.answer } }

/-- A kind's latched flag. -/
def latched (s : State) (k : NoticeKind) : Bool := s.notices.flags[k.code]

/-- The result code of the answer that leaves, none where no answer leaves. -/
def answerCode (s : State) : Option ResultCode := s.out.answer.map Answer.result

/-! ### Legal states -/

/-- The ring's ranges and the lock machine's rest values (R19, R23, R25, R29); the run of 0 in LOCKED is the model's
choice (log 42). -/
structure RingLegal (r : Ring) : Prop where
  number   : r.frameNumber < Config.frameNumbers
  goodRun  : r.goodRun < Config.forgiveRun
  acqRun   : r.acqRun < Config.acquireRun
  resting  : r.lock ≠ .acquiring → r.acqRun = 0
  unlocked : r.lock ≠ .locked → r.errors = 0 ∧ r.goodRun = 0

/-- What a guard's record holds in each state (R101). -/
structure GuardLegal (g : Guard) : Prop where
  watch      : g.state = .watch → g.g = 0 ∧ g.hold = 0 ∧ g.recovery = 0
  ducked     : g.state = .ducked → g.recovery = 0
  recovering : g.state = .recovering → g.hold = 0

/-- Every output's current lies in range and its guard is legal (R9, R101). -/
def OutputsLegal (s : State) : Prop :=
  ∀ m : Fin 32, s.outputs[m].current ≤ Config.silence ∧ GuardLegal s.outputs[m].guard

/-- The engine's fields agree with its state (R132, R154). -/
structure EngineLegal (e : Engine) : Prop where
  operation : e.state = .steady ↔ e.operation = .none
  scheduled : e.state = .scheduled ↔ e.scheduled.isSome = true
  commit    : e.state = .scheduled → ∃ mode, e.operation = .commit mode
  quiet     : e.quiet ≤ 2

/-- The store's fields agree with its state (R159, R164). -/
structure StoreLegal (st : Store) : Prop where
  idle      : st.state = .idle → st.sector = none ∧ st.count = 0
  sector    : st.state ≠ .idle → st.state ≠ .updating → st.sector.isSome = true
  suspended : st.state = .eraseSuspended ↔ st.suspended.isSome = true
  updating  : st.state = .updating ↔ st.newRecord.isSome = true

/-- A capture has a scheduled frame exactly while it is ARMED with an AT trigger (R174 to R176). -/
def CaptureLegal (c : Capture) : Prop := c.scheduled.isSome = true ↔ c.state = .armed ∧ c.trigger = .atFrame

/-- The recompute queue holds a bank and line at most once (R85). -/
def RecomputesLegal (d : Decay) : Prop := d.queue.Nodup

/-- An entry of the notice queue: a count from 1 to 255, and an edge exactly for a level (R195). -/
structure EntryLegal (e : NoticeEntry) : Prop where
  count : 1 ≤ e.count ∧ e.count ≤ 255
  edge  : e.edge = .none ↔ e.kind ∉ levelKinds

/-- The notice queue holds at most one entry per kind, each legal (R195). -/
structure NoticesLegal (q : List NoticeEntry) : Prop where
  kinds   : (q.map NoticeEntry.kind).Nodup
  entries : ∀ e ∈ q, EntryLegal e

/-- Every counter lies within its range (R36, R199). -/
def CountersLegal (s : State) : Prop := ∀ i, i < 76 → counterValue s i ≤ Config.counterTop

/-- Every memory of the part is in its canonical form, and the pool lists no word that does not exist. -/
structure MemoriesLegal (s : State) : Prop where
  pool    : Cells.wf 0 s.reverb.pool = true
  inside  : ∀ c ∈ s.reverb.pool, c.1 < Config.poolWords
  capture : Cells.wf 0 s.capture.words = true
  sectors : ∀ n : Fin 16, Cells.wf erasedWord s.store.memory[n] = true
  record  : Cells.wf erasedWord s.store.startMemory = true

/-- Every sample the pool and the hand-off line hold is within full scale (R6, R66, R95). -/
structure SamplesLegal (s : State) : Prop where
  pool  : ∀ c ∈ s.reverb.pool, fullScale c.2 = true
  front : ∀ m : Fin 32, fullScale s.ring.handFront[m] = true
  back  : ∀ m : Fin 32, fullScale s.ring.handBack[m] = true

/-! ### What commands can do -/

/-- A command that can bring the end of a store operation that writes the nonvolatile memory, or cut one short. -/
def mayWriteNonvolatile : Instr → Bool
  | .powerOnReset _ | .powerLoss | .arrival _ | .oscillatorFramePeriod => true
  | .eraseCompletion | .writeCompletion | .startRecordRewriteEnd => true
  | _ => false

/-- What every frame period leaves of the ring that its cell and blocks cannot change (R31): the hand-off
line has moved on, the signal is present and the gap is over. -/
structure RingMovedOn (s t : State) : Prop where
  front  : t.ring.handFront = s.ring.handBack
  signal : t.ring.signal = true
  gap    : t.ring.gap = 0

/-- The effects of a lock loss on the state, the Notice Unit aside (R29, R50, R115, R146, R173, R176). That the
acquisition run is 0 after it is the model's choice (log 42). -/
structure LockIsLost (s t : State) : Prop where
  ring    : t.ring = { s.ring with
    lock := .unlocked, errors := 0, goodRun := 0, acqRun := 0, lockLosses := min (s.ring.lockLosses + 1) 65535
    signal := t.ring.signal, gap := t.ring.gap }
  inputs  : ∀ i : Fin 24, t.inputs[i] = if s.inputs[i].state = .unbound then s.inputs[i] else
    { s.inputs[i] with state := .absent, qualify := 0, invalidRun := 0 }
  outputs : ∀ m : Fin 32, t.outputs[m] = { s.outputs[m] with current := 1536 }
  gen     : t.gen = { s.gen with running := false, remaining := 0, first := false, next := none }
  engine  : t.engine = if s.engine.state = .scheduled then
    { s.engine with state := .steady, operation := .none, scheduled := none } else s.engine
  capture : t.capture = if s.capture.state = .armed ∧ s.capture.trigger = .atFrame then
    { s.capture with state := .idle, captured := 0, scheduled := none, triggered := false } else s.capture
  frame   : t = { s with
    ring := t.ring, inputs := t.inputs, outputs := t.outputs, engine := t.engine, gen := t.gen,
    capture := t.capture, notices := t.notices }
  latched : latched t .ringLocked = true

/-- The sustain count that an evaluation leaves (R102). -/
def sustainAfter (p : ProfileRec) (u : OutputUnit) : Nat :=
  if p.samples ≤ (u.lastPeak : Int) then u.guard.count + 1 else 0

/-! ### Legal banks -/

def InputRec.Legal (r : InputRec) : Prop := r.attenuation ≤ 1536 ∧ r.admitCount ≤ 255 ∧ r.dropLimit ≤ 254

def InjectionRec.Legal (r : InjectionRec) : Prop := r.attenuation ≤ 1536

def LineRec.Legal (r : LineRec) : Prop :=
  r.base < Config.poolWords ∧ lengthOk r.length = true ∧ 100 ≤ r.time ∧ r.time ≤ 20000 ∧ r.decay ≤ 1536

def TapRec.Legal (r : TapRec) : Prop := 1 ≤ r.offset ∧ r.offset ≤ 65536 ∧ r.attenuation ≤ 1536

def OutputRec.Legal (r : OutputRec) : Prop := r.firstTap ≤ 511 ∧ r.tapCount ≤ 64 ∧ r.trim ≤ 1536

def ProfileRec.Legal (r : ProfileRec) : Prop :=
  r.threshold ≤ 1535 ∧ r.samples = thresholdSamples r.threshold ∧ (1 ≤ r.sustain ∧ r.sustain ≤ 64) ∧
    (1 ≤ r.duck ∧ r.duck ≤ 192) ∧ (r.duck ≤ r.maximum ∧ r.maximum ≤ 768) ∧
    (1 ≤ r.hold ∧ r.hold ≤ 4095) ∧ (1 ≤ r.recovery ∧ r.recovery ≤ 4095)

def GlobalsRec.Legal (r : GlobalsRec) : Prop :=
  (1 ≤ r.riseRate ∧ r.riseRate ≤ 255) ∧ (1 ≤ r.fallRate ∧ r.fallRate ≤ 255) ∧
    (1 ≤ r.backoffStep ∧ r.backoffStep ≤ 96) ∧ r.backoffMaximum ≤ 480 ∧
    (1 ≤ r.backoffHold ∧ r.backoffHold ≤ 4095) ∧ (1 ≤ r.backoffInterval ∧ r.backoffInterval ≤ 4095) ∧
    r.name.length ≤ 16 ∧ ∀ c ∈ r.name, 32 ≤ c ∧ c ≤ 126

/-- Every field of a bank is within the range the field table of R124 gives it. -/
structure Bank.Legal (b : Bank) : Prop where
  inputs     : ∀ i : Fin 24, b.inputs[i].Legal
  injections : ∀ n : Fin 128, b.injections[n].Legal
  lines      : ∀ j : Fin 16, b.lines[j].Legal
  taps       : ∀ t : Fin 512, b.taps[t].Legal
  outputs    : ∀ m : Fin 32, b.outputs[m].Legal
  profiles   : ∀ p : Fin 4, b.profiles[p].Legal
  globals    : b.globals.Legal

/-- An amendment as the store takes it: it names an entry and a field of a table, with a value that a write
of that field takes as it stands (R166). -/
def Amendment.Legal (a : Amendment) : Prop :=
  a.index < a.table.size ∧ a.field < a.table.fields ∧ fieldValue a.table a.field a.value = .taken a.value

/-- Both banks and the amendment list hold values within their ranges (R124, R166). -/
structure TablesLegal (s : State) : Prop where
  bankA      : s.bankA.Legal
  bankB      : s.bankB.Legal
  amendments : ∀ k : Fin 8, s.store.amendments[k].Legal

/-- R58, R129, R130: the active bank passes the set check, every write position lies in its line's region, and the
pending bank of a commit that is scheduled, fading out or clearing passes it too. -/
structure ScenesPass (s : State) : Prop where
  active   : setCheck (activeBank s) = none
  position : ∀ j : Fin 16, (activeBank s).lines[j].length ≠ 0 → s.reverb.position[j] < (activeBank s).lines[j].length
  pending  : engineReason s = true → (∃ mode, s.engine.operation = .commit mode) → setCheck (pendingBank s) = none

/-! ### A frame period that computes

The formulas of the rules, written with sums over all entries, for a frame period of an arrival or of the
oscillator. -/

/-- R27: the frame period of number `n` comes with a slip. -/
def Slipped (n : Nat) (s : State) : Prop := s.ring.lock = .locked ∧ n ≠ (s.ring.frameNumber + 1) % 16777216

/-- R135, R136, R176: a scheduled frame is reached at number `n`, or passed over by a slip to it. -/
def FrameReached (frame n : Nat) (s : State) : Prop := distance frame n = 0 ∨ Slipped n s ∧ 65535 < distance frame n

/-- R34, R35: a cell asks nothing of the node: it is no REQUEST, or a REQUEST that names another node without the
broadcast flag. An IDLE cell takes a notice out and asks nothing else. -/
def AsksNothing (cell : List Word) (s : State) : Prop :=
  field (wordAt cell 0) 0 2 = 1 → field (wordAt cell 0) 4 4 ≠ s.node.number ∧ field (wordAt cell 0) 2 1 = 0

/-- R18, R19, R26 to R28, R33: command `c` brings a frame period of number `n` that keeps the lock state; `f` is its
frame, as received, and `u` that frame where its contents are used. In LOCKED it is an arrival: good, in sequence or at a
slip short of the threshold; flagged; or bad, short of the threshold. Otherwise it is a period of the oscillator that
brings no signal loss. The cell of a good frame asks nothing of the node. -/
def BringsPeriod (c : Instr) (f u : Option Frame) (n : Nat) (s : State) : Prop :=
  (∃ g, c = .arrival g ∧ f = some g ∧ s.ring.lock = .locked ∧
    (classify g = .good ∧ u = some g ∧ n = frameNumberOf g ∧ AsksNothing (cellOf g) s ∧
        (Slipped n s → s.ring.errors + 1 < s.node.threshold) ∨
      classify g = .flagged ∧ u = none ∧ n = (s.ring.frameNumber + 1) % 16777216 ∨
      classify g = .bad ∧ u = none ∧ n = (s.ring.frameNumber + 1) % 16777216 ∧
        s.ring.errors + 1 < s.node.threshold)) ∨
  c = .oscillatorFramePeriod ∧ f = none ∧ u = none ∧ s.ring.lock ≠ .locked ∧ (s.ring.signal = true → s.ring.gap < 3) ∧
    n = (if s.started = true then (s.ring.frameNumber + 1) % 16777216 else 0)

/-- A frame period of `BringsPeriod` in which no scheduled commit is due, no held recall is released, and no clearing
ends: one in progress is short of its 64th frame period. -/
structure PlainPeriod (c : Instr) (f u : Option Frame) (n : Nat) (s : State) : Prop where
  works    : Works s
  source   : BringsPeriod c f u n s
  engine   : s.engine.state = .scheduled → ∀ frame, s.engine.scheduled = some frame → ¬ FrameReached frame n s
  held     : s.engine.state = .fadeIn → recallReason s = true → s.store.count ≠ 0
  clearing : s.reverb.clearing = true → s.reverb.clearCount < 63

/-- R35, R196: the frame period's cell is an IDLE cell, which the node is offered. -/
def OffersIdle (u : Option Frame) : Prop := ∃ g, u = some g ∧ field (wordAt (cellOf g) 0) 0 2 = 0

/-- R192, R195, R196: what a frame period in which no occurrence but of the kinds `ks` can come leaves of the Notice
Unit and of the outgoing cell: no flag clears and no other is latched, and the entries of the other kinds stand as they
stood, but for the oldest entry, which leaves in an IDLE cell. -/
structure NoticesMoved (ks : List NoticeKind) (u : Option Frame) (s t : State) : Prop where
  holds   : ∀ k, latched s k = true → latched t k = true
  flags   : ∀ k, k ∉ ks → latched t k = latched s k
  offered : OffersIdle u → t.notices.queue.filter (fun e => decide (e.kind ∉ ks)) =
    s.notices.queue.tail.filter (fun e => decide (e.kind ∉ ks))
  kept    : ¬ OffersIdle u → t.out.notice = none ∧ t.notices.queue.filter (fun e => decide (e.kind ∉ ks)) =
    s.notices.queue.filter (fun e => decide (e.kind ∉ ks))
  answer  : t.out.answer = none

/-- R194, R195: queue `p` is queue `q` after one enabled occurrence of a kind, with its edge, in the frame period of
number `n`: the entry of the kind counts it, up to 255, and takes its edge, or a new entry joins at the end. -/
structure TakesOccurrence (n : Nat) (k : NoticeKind) (edge : Edge) (q p : List NoticeEntry) : Prop where
  counted : ∀ before e behind, q = before ++ e :: behind → (∀ x ∈ before, x.kind ≠ k) → e.kind = k →
    p = before ++ ⟨k, e.first, min (e.count + 1) 255, edge⟩ :: behind
  joined  : (∀ x ∈ q, x.kind ≠ k) → p = q ++ [⟨k, n, 1, edge⟩]

/-- R176, R177: the capture records in the frame period of number `n`: it is RUNNING, or its trigger is met. -/
def CaptureRuns (n : Nat) (s : State) : Prop :=
  s.capture.state = .running ∨
  s.capture.state = .armed ∧ (s.capture.trigger = .immediate ∨
    s.capture.trigger = .withGenerator ∧ s.capture.triggered = true ∨
    s.capture.trigger = .atFrame ∧ ∃ frame, s.capture.scheduled = some frame ∧ FrameReached frame n s)

/-- R33: the sample of an input's slot in a frame whose contents are used, none where there is none, where its valid
marker is 0 or where the input is unbound. -/
def arrivedSample (u : Option Frame) (r : InputRec) : Option Sample :=
  match u, r.slot with
  | some f, some n => if validMarker f n.val then some (slotSample f n.val) else none
  | _, _ => none

/-- R41, R42, R44 to R46: a bound input after the sample of a frame period that is no block boundary. -/
def inputAfter (r : InputRec) (sample : Option Sample) (u : InputUnit) : InputUnit :=
  match u.state, sample with
  | .unbound, _ => u
  | .absent, none => u
  | .absent, some _ =>
    if r.admitCount ≤ 1 then ⟨.admitted, 0, 0, 1536, u.invalid⟩ else ⟨.qualifying, 1, u.invalidRun, u.current, u.invalid⟩
  | .qualifying, none => ⟨.absent, 0, 0, u.current, u.invalid⟩
  | .qualifying, some _ =>
    if r.admitCount ≤ u.qualify + 1 then ⟨.admitted, 0, 0, 1536, u.invalid⟩ else { u with qualify := u.qualify + 1 }
  | .admitted, some _ => { u with invalidRun := 0 }
  | .admitted, none =>
    if r.dropLimit < u.invalidRun + 1 then ⟨.absent, 0, 0, u.current, min (u.invalid + 1) 65535⟩
    else { u with invalidRun := u.invalidRun + 1, invalid := min (u.invalid + 1) 65535 }

/-- R48: the conditioned sample of an input in a frame period that is no block boundary. -/
def expectedInput (u : Option Frame) (s : State) (i : Fin 24) : Int :=
  match arrivedSample u (activeBank s).inputs[i], s.inputs[i].state with
  | some raw, .admitted => sat (rnd (raw * factor s.inputs[i].current))
  | _, _ => 0

/-- R59: the word of a used line that lies `back` words behind its write position; 0 for an unused line. -/
def lineWordBack (s : State) (j : Fin 16) (back : Nat) : Int :=
  let r := (activeBank s).lines[j]
  if r.length = 0 then 0
  else Cells.read 0 s.reverb.pool (r.base + (s.reverb.position[j] + r.length - back) % r.length)

/-- R62, R63: the feedback term of a line, its group's signed line ends under the signs of the matrix. -/
def expectedFeedback (s : State) (j : Fin 16) : Int :=
  let b := activeBank s
  let n := b.globals.order.size
  let h := ∑ k : Fin 16,
    if j.val / n = k.val / n then b.lines[k].sign.factor * mixSign (j.val % n) (k.val % n) * lineWordBack s k 0 else 0
  if b.globals.order = .sixteen then (h + 2) / 4 else (h + 1) / 2

/-- R64 to R66: the sum v_j that a line's write rounds. -/
def expectedLine (u : Option Frame) (s : State) (j : Fin 16) : Int :=
  let b := activeBank s
  (∑ n : Fin 128, match b.injections[n].input with
    | some i => if b.injections[n].line = j then expectedInput u s i * factor s.reverb.injectionCurrent[n] else 0
    | none => 0) +
  expectedFeedback s j * factor (min (s.reverb.lineCurrent[j] + s.backoff.level) 1536)

/-- R68, R69: the tap sum t_m of an output. -/
def expectedTaps (s : State) (m : Fin 32) : Int :=
  let b := activeBank s
  ∑ k : Fin 512,
    if b.outputs[m].firstTap ≤ k.val ∧ k.val < b.outputs[m].firstTap + b.outputs[m].tapCount then
      b.taps[k].sign.factor * lineWordBack s b.taps[k].line b.taps[k].offset * factor s.reverb.tapCurrent[k]
    else 0

/-- R69, R77: the pre-trim sum u_m, 0 in a clearing frame period. -/
def expectedPreTrim (s : State) (m : Fin 32) : Int := if s.reverb.clearing = true then 0 else sat (rnd (expectedTaps s m))

/-- R95: the output sample o_m. -/
def expectedOutput (s : State) (m : Fin 32) : Int := sat (rnd (expectedPreTrim s m * factor s.outputs[m].current))

/-- R172: the generator's sample for its target output. -/
def expectedBurst (g : Generator) : Int :=
  match g.kind with
  | .impulse => if g.first = true then rnd (8388607 * factor g.level) else 0
  | .noise =>
    let v := (1664525 * g.noise + 1013904223) % 4294967296 / 256
    rnd ((if 8388608 ≤ v then (v : Int) - 16777216 else v) * factor g.level)

/-- R95, R169: the generator's sample q_m of an output. -/
def expectedGenerator (s : State) (m : Fin 32) : Int :=
  if s.gen.running = true ∧ s.gen.target = m then expectedBurst s.gen else 0

/-- R96: output `m` clips: its pre-trim sum was saturated, or the addition of the generator's sample was. -/
def OutputClips (s : State) (m : Fin 32) : Prop :=
  s.reverb.clearing = false ∧ sat (rnd (expectedTaps s m)) ≠ rnd (expectedTaps s m) ∨
    sat (expectedOutput s m + expectedGenerator s m) ≠ expectedOutput s m + expectedGenerator s m

/-- R48, R59, R77, R95, R174: the value of a capture point in a frame period that is no block boundary. -/
def expectedPoint (f u : Option Frame) (s : State) : CapturePoint → Int
  | .input i => expectedInput u s i
  | .line j => if s.reverb.clearing = true then 0 else lineWordBack s j 0
  | .output m => sat (expectedOutput s m + expectedGenerator s m)
  | .slot n =>
    match f with
    | some g => slotSample g n.val
    | none => 0

/-- R97: the target of an output in a state whose guards are those of `t`. -/
def expectedTarget (s t : State) (m : Fin 32) : Nat :=
  let r := (activeBank s).outputs[m]
  if s.engine.state = .fadeOut ∨ s.engine.state = .clearing ∨ s.ring.lock ≠ .locked ∨ r.slot = none then 1536
  else min (r.trim + t.outputs[m].guard.g) 1536

/-- R10: one step of a current at a block boundary by the rates of the active bank. -/
def steppedToward (s : State) (target current : Nat) : Nat :=
  if current < target then min (current + (activeBank s).globals.fallRate) target
  else max (current - (activeBank s).globals.riseRate) target

/-- R102 to R106: the guard of an output with a profile after its evaluation on a block peak. -/
def guardAfter (p : ProfileRec) (peak : Nat) (g : Guard) : Guard :=
  let c := if p.samples ≤ (peak : Int) then g.count + 1 else 0
  if p.sustain ≤ c then ⟨.ducked, min (g.g + p.duck) p.maximum, 0, p.hold, 0⟩
  else match g.state with
    | .watch => { g with count := c }
    | .ducked => if g.hold ≤ 1 then ⟨.recovering, g.g, c, 0, p.recovery⟩ else { g with count := c, hold := g.hold - 1 }
    | .recovering =>
      if 1 < g.recovery then { g with count := c, recovery := g.recovery - 1 }
      else if 1 < g.g then ⟨.recovering, g.g - 1, c, 0, p.recovery⟩ else ⟨.watch, 0, c, 0, 0⟩

/-- R111: the backoff after its timers are counted at a block boundary. -/
def backoffCounted (s : State) : Backoff :=
  if 0 < s.backoff.hold then { s.backoff with hold := s.backoff.hold - 1 }
  else if s.backoff.level = 0 ∨ ∃ m : Fin 32, s.outputs[m].guard.state = .ducked then s.backoff
  else if 1 < s.backoff.interval then { s.backoff with interval := s.backoff.interval - 1 }
  else ⟨s.backoff.level - 1, 0, (activeBank s).globals.backoffInterval⟩

/-! ### The fields of the bank tables

R124 gives each table its fields in an order, which numbers them (R200); R200 gives each its place in a record. -/

/-- A field of a record: its place in the record's words, the values it accepts (any other is refused RANGE), and
the range an accepted value is clamped to (R124, R125). -/
structure FieldRule where
  word    : Nat
  lo      : Nat
  width   : Nat
  accepts : Nat → Prop
  lowest  : Nat
  highest : Nat

/-- A field of which every value outside its range is clamped. -/
def clampedField (word lo width lowest highest : Nat) : FieldRule := ⟨word, lo, width, fun _ => True, lowest, highest⟩

/-- A field of which every value it does not accept is refused. -/
def strictField (word lo width : Nat) (accepts : Nat → Prop) : FieldRule := ⟨word, lo, width, accepts, 0, 4294967295⟩

/-- A field that names one of `n` things, or NONE by the code 255. -/
def namingField (word lo n : Nat) : FieldRule := strictField word lo 8 (fun x => x < n ∨ x = 255)

/-- R124, R125, R200: the fields of a table's records by number. The two computed fields of LINES (4 and 5) and
the four words of the scene name (7 to 10 of GLOBALS) have rules of their own. -/
def fieldRules : BankTable → List FieldRule
  | .inputs => [namingField 0 0 128, clampedField 0 16 16 0 1536, clampedField 1 0 16 0 255, clampedField 1 16 16 0 254]
  | .injections => [namingField 0 0 24, strictField 0 8 8 (· < 16), clampedField 0 16 16 0 1536]
  | .lines =>
    [strictField 0 0 32 (· < 262144), strictField 1 0 32 (fun x => x = 0 ∨ 64 ≤ x ∧ x ≤ 65536),
     strictField 2 16 1 (fun x => x < 2), clampedField 2 0 16 100 20000]
  | .taps =>
    [strictField 1 16 8 (· < 16), strictField 0 0 32 (fun x => 1 ≤ x ∧ x ≤ 65536), strictField 1 24 1 (fun x => x < 2),
     clampedField 1 0 16 0 1536]
  | .outputs =>
    [namingField 0 24 128, strictField 0 0 16 (· ≤ 511), clampedField 0 16 8 0 64, clampedField 1 0 16 0 1536,
     namingField 1 16 4]
  | .profiles =>
    [clampedField 0 0 16 0 1535, clampedField 0 16 16 1 64, clampedField 1 0 16 1 192, clampedField 1 16 16 1 768,
     clampedField 2 0 16 1 4095, clampedField 2 16 16 1 4095]
  | .globals =>
    [strictField 0 0 8 (fun x => x = 4 ∨ x = 16), clampedField 0 8 8 1 255, clampedField 0 16 8 1 255,
     clampedField 0 24 8 1 96, clampedField 1 0 16 0 480, clampedField 1 16 16 1 4095, clampedField 2 0 16 1 4095]

/-- The value a record carries for a field. -/
def FieldRule.carried (r : FieldRule) (ws : List Word) : Nat := field (wordAt ws r.word) r.lo r.width

/-- The value of a field clamped to its range. -/
def FieldRule.treated (r : FieldRule) (x : Nat) : Nat := max r.lowest (min x r.highest)

/-- The value a written field takes: its clamped value, and for the guard maximum the larger of that and the clamped
duck step of the same record (R125). -/
def writtenField (t : BankTable) (k : Nat) (r : FieldRule) (ws : List Word) : Nat :=
  if t = .profiles ∧ k = 3 then max (r.treated (r.carried ws)) (max 1 (min (field (wordAt ws 1) 0 16) 192))
  else r.treated (r.carried ws)

/-- The 16 bytes of a scene name, 0 after its end (R200). -/
def nameByte (name : List Nat) (i : Nat) : Nat := name.getD i 0

/-- A field of an INPUTS record by number. -/
def InputRec.fieldAt (r : InputRec) : Nat → Nat
  | 0 => identityCode r.slot
  | 1 => r.attenuation
  | 2 => r.admitCount
  | 3 => r.dropLimit
  | _ => 0

/-- A field of an INJECTIONS record by number. -/
def InjectionRec.fieldAt (r : InjectionRec) : Nat → Nat
  | 0 => identityCode r.input
  | 1 => r.line.val
  | 2 => r.attenuation
  | _ => 0

/-- A field of a LINES record by number. -/
def LineRec.fieldAt (r : LineRec) : Nat → Nat
  | 0 => r.base
  | 1 => r.length
  | 2 => r.sign.code
  | 3 => r.time
  | 4 => r.decay
  | 5 => if r.clamp then 1 else 0
  | _ => 0

/-- A field of a TAPS record by number. -/
def TapRec.fieldAt (r : TapRec) : Nat → Nat
  | 0 => r.line.val
  | 1 => r.offset
  | 2 => r.sign.code
  | 3 => r.attenuation
  | _ => 0

/-- A field of an OUTPUTS record by number. -/
def OutputRec.fieldAt (r : OutputRec) : Nat → Nat
  | 0 => identityCode r.slot
  | 1 => r.firstTap
  | 2 => r.tapCount
  | 3 => r.trim
  | 4 => identityCode r.profile
  | _ => 0

/-- A field of a PROFILES record by number. -/
def ProfileRec.fieldAt (r : ProfileRec) : Nat → Nat
  | 0 => r.threshold
  | 1 => r.sustain
  | 2 => r.duck
  | 3 => r.maximum
  | 4 => r.hold
  | 5 => r.recovery
  | _ => 0

/-- A field of the GLOBALS record by number; from 7 on, a word of the scene name. -/
def GlobalsRec.fieldAt (r : GlobalsRec) : Nat → Nat
  | 0 => r.order.code
  | 1 => r.riseRate
  | 2 => r.fallRate
  | 3 => r.backoffStep
  | 4 => r.backoffMaximum
  | 5 => r.backoffHold
  | 6 => r.backoffInterval
  | k + 7 => nameByte r.name (4 * k) + 256 * nameByte r.name (4 * k + 1) + 65536 * nameByte r.name (4 * k + 2) +
      16777216 * nameByte r.name (4 * k + 3)

/-- A field of an entry of a bank table, as the code that a record carries; 0 where the entry does not exist. -/
def Bank.fieldAt (b : Bank) (t : BankTable) (i k : Nat) : Nat :=
  match t with
  | .inputs => if h : i < 24 then b.inputs[i].fieldAt k else 0
  | .injections => if h : i < 128 then b.injections[i].fieldAt k else 0
  | .lines => if h : i < 16 then b.lines[i].fieldAt k else 0
  | .taps => if h : i < 512 then b.taps[i].fieldAt k else 0
  | .outputs => if h : i < 32 then b.outputs[i].fieldAt k else 0
  | .profiles => if h : i < 4 then b.profiles[i].fieldAt k else 0
  | .globals => if i = 0 then b.globals.fieldAt k else 0

/-- R123: the structural fields of a table's records, by number. -/
def structuralFields : BankTable → List Nat
  | .inputs => [0]
  | .injections => [0, 1]
  | .lines => [0, 1, 2]
  | .taps => [0, 1, 2]
  | .outputs => [0, 1, 2]
  | .profiles => []
  | .globals => [0]

/-- The characters that the four words of a scene name carry, up to the first code 0 (R200). -/
def nameBytes (ws : List Word) : List Nat :=
  ((List.range 16).map (fun i => field (wordAt ws (i / 4)) (i % 4 * 8) 8)).takeWhile (· != 0)

/-- The scene name that four words are written as: every character that is not printable as "?" (R125). -/
def nameCarried (ws : List Word) : List Nat := (nameBytes ws).map (fun c => if 32 ≤ c ∧ c ≤ 126 then c else 63)

/-- R124, R125: a record carries a value that its write clamps, or a character that it replaces. -/
def RecordClamped (t : BankTable) (ws : List Word) : Prop :=
  (∃ k r, (fieldRules t)[k]? = some r ∧ writtenField t k r ws ≠ r.carried ws) ∨
    t = .globals ∧ ∃ x ∈ nameBytes (ws.drop 3), ¬ (32 ≤ x ∧ x ≤ 126)

/-- R16, R124, R125: bank `c` is bank `b` with the record of words `ws` written into entry `i` of table `t`. -/
structure RecordTaken (t : BankTable) (i : Nat) (ws : List Word) (b c : Bank) : Prop where
  fields  : ∀ k r, (fieldRules t)[k]? = some r → c.fieldAt t i k = writtenField t k r ws
  kept    : t = .lines → ∀ k, 4 ≤ k → c.fieldAt t i k = b.fieldAt t i k
  others  : ∀ t' i' k, t' ≠ t ∨ i' ≠ i → c.fieldAt t' i' k = b.fieldAt t' i' k
  name    : c.globals.name = (if t = .globals then nameCarried (ws.drop 3) else b.globals.name)
  samples : ∀ p : Fin 4, c.profiles[p].samples =
    if t = .profiles ∧ i = p.val then rnd (8388607 * factor c.profiles[p].threshold) else b.profiles[p].samples

/-- The character of a name carried in four words from word `lo` on, by its number (R200). -/
def carriedCharacter (ws : List Word) (lo k : Nat) : Nat := field (wordAt ws (lo + k / 4)) (8 * (k % 4)) 8

/-- R168: the code of a sector's activity: 0 NONE, 1 ERASING, 2 ERASE_SUSPENDED, 3 WRITING, 4 RECALLING. -/
def expectedActivity (st : Store) (n : Fin 16) : Nat :=
  match st.suspended with
  | some (k, _) => if k = n then 2 else if st.sector = some n then 4 else 0
  | none =>
    if st.sector ≠ some n then 0
    else match st.state with
      | .erasing => 1
      | .writing => 3
      | .recalling | .eraseSuspended => 4
      | .idle | .updating => 0

/-- R39, R82, R121, R166, R168, R186, R200: the fields of the record that a TAKE of entry `i` of a table returns, each in
its bits. -/
def RecordShows (s : State) (t : TableName) (i : Nat) (ws : List Word) : Prop :=
  let w (k : Nat) : Word := wordAt ws k
  match t with
  | .bank b =>
    let c := bankOf s (viewName s s.pointer.view)
    (∀ k r, (fieldRules b)[k]? = some r → r.carried ws = c.fieldAt b i k % 2 ^ r.width) ∧
      (b = .lines → field (w 3) 0 16 = c.fieldAt b i 4 % 65536 ∧ field (w 3) 16 1 = c.fieldAt b i 5) ∧
      (b = .globals → ∀ k, k < 16 → carriedCharacter ws 3 k = nameByte c.globals.name k % 256)
  | .amendments => ∀ k : Fin 8, i = k.val →
    let a := s.store.amendments[k]
    bitOf (w 0) 0 = a.inUse ∧ field (w 0) 8 8 = identityCode a.sector ∧ field (w 0) 16 8 = a.table.code ∧
      field (w 0) 24 8 = a.field % 256 ∧ field (w 1) 0 16 = a.index % 65536 ∧ (w 2).toNat = a.value % 4294967296
  | .node =>
    field (w 0) 0 4 = s.node.number % 16 ∧ field (w 0) 8 8 = s.node.threshold % 256 ∧
      (∀ k : Fin 6, bitOf (w 1) k.val = s.node.enables.rise[k] ∧ bitOf (w 1) (8 + k.val) = s.node.enables.fall[k]) ∧
      ∀ k : Fin 9, bitOf (w 1) (16 + k.val) = s.node.enables.pulse[k]
  | .inputState => ∀ k : Fin 24, i = k.val →
    let u := s.inputs[k]
    field (w 0) 0 8 = u.state.code ∧ field (w 0) 8 8 = u.qualify % 256 ∧ field (w 0) 16 8 = u.invalidRun % 256 ∧
      field (w 1) 0 16 = u.current % 65536
  | .lineState => ∀ j : Fin 16, i = j.val →
    let r := (activeBank s).lines[j]
    (bitOf (w 0) 31 = true ↔ r.length ≠ 0) ∧ field (w 0) 0 16 = s.reverb.position[j] % 65536 ∧
      field (w 1) 0 16 = r.decay % 65536 ∧ field (w 1) 16 16 = s.reverb.lineCurrent[j] % 65536 ∧
      field (w 2) 0 16 = s.reverb.applied[j] % 65536 ∧ w 3 = BitVec.ofInt 32 s.reverb.lastEnd[j]
  | .outputState =>
    (∀ m : Fin 32, i = m.val →
      let u := s.outputs[m]
      field (w 0) 0 16 = expectedTarget s s m ∧ field (w 0) 16 16 = u.current % 65536 ∧
        field (w 1) 0 24 = u.lastPeak % 16777216 ∧ field (w 1) 24 2 = u.guard.state.code ∧
        (bitOf (w 1) 31 = true ↔ (activeBank s).outputs[m].slot.isSome = true) ∧
        field (w 2) 0 16 = u.guard.g % 65536 ∧ field (w 2) 16 8 = u.guard.count % 256 ∧
        field (w 3) 0 16 = u.guard.hold % 65536 ∧ field (w 3) 16 16 = u.guard.recovery % 65536) ∧
    (i = 32 → field (w 0) 0 16 = s.backoff.level % 65536 ∧ field (w 1) 0 16 = s.backoff.hold % 65536 ∧
      field (w 2) 0 16 = s.backoff.interval % 65536 ∧ w 3 = 0)
  | .sectors =>
    (∀ n : Fin 16, i = n.val →
      let stored := (List.range 4).map (fun k => Cells.read erasedWord s.store.memory[n] (1343 + k))
      let named : Prop := s.store.sectors[n] = .valid ∧ expectedActivity s.store n ≠ 1 ∧ expectedActivity s.store n ≠ 2
      field (w 0) 0 8 = s.store.sectors[n].code ∧ field (w 0) 8 8 = expectedActivity s.store n ∧
        bitOf (w 0) 16 = s.store.record.guarded[n] ∧ (bitOf (w 0) 17 = true ↔ s.store.record.start = some n) ∧
        ∀ k, k < 16 → (named → carriedCharacter ws 1 k = nameByte (nameBytes stored) k) ∧
          (¬ named → carriedCharacter ws 1 k = 0)) ∧
    (i = 16 → field (w 0) 0 8 = identityCode s.store.record.start ∧
      (bitOf (w 0) 8 = true ↔ s.store.state = .updating) ∧ w 1 = 0 ∧ w 2 = 0 ∧ w 3 = 0 ∧ w 4 = 0)
  | .counters => (w 0).toNat = counterValue s i % 65536
  | .capture => w 0 = BitVec.ofInt 32 (Cells.read 0 s.capture.words i)

/-- R163: the value of a field of the recalled image: that of the last amendment in use for the sector that names
it, else the stored one. -/
def amendedField (st : Store) (n : Fin 16) (b : Bank) (t : BankTable) (i k : Nat) : Nat :=
  match (st.amendments.toList.filter (fun a =>
      a.inUse && (a.sector == none || a.sector == some n) && a.table == t && a.index == i && a.field == k)).getLast? with
  | some a => a.value
  | none => b.fieldAt t i k

end Sys2Proof.Machine
end

