-- ==== Sys2Proof/Certificates/Slice0/Obligations.lean ====
section
/-! DEFINITION. The statements for the provers: what the rules of the manual say the commands do. -/

open Sys2Proof Sys2Proof.Machine

/-! ### The step and the whole machine -/

/-- O1. The step executes the command at the front of the queue with the rest behind it; with none waiting
the part idles, which is the model's choice (log 1). -/
def Obligations.StepTakesTheFrontCommand : Prop :=
  (∀ (c : Instr) (rest : List Instr) (s : State), s.pending = c :: rest → step s = exec c { s with pending := rest }) ∧
  ∀ s : State, s.pending = [] → step s = .next s

/-- O2. No command faults and none is refused: the manual gives each an effect, or says it has none. -/
def Obligations.EveryCommandAnswersNext : Prop := ∀ (c : Instr) (s : State), ∃ t, exec c s = .next t

/-- O3. The state after reset is legal in every respect that the step keeps. -/
def Obligations.ResetIsLegal : Prop :=
  RingLegal State.reset.ring ∧ OutputsLegal State.reset ∧ EngineLegal State.reset.engine ∧
  StoreLegal State.reset.store ∧ CaptureLegal State.reset.capture ∧ RecomputesLegal State.reset.decay ∧
  NoticesLegal State.reset.notices.queue ∧ CountersLegal State.reset ∧ MemoriesLegal State.reset ∧
  SamplesLegal State.reset ∧ TablesLegal State.reset ∧ ScenesPass State.reset

/-- O4. R19, R23, R25, R29: the ring's numbers stay in range and rest outside their lock states. That the acquisition
run is 0 in LOCKED is the model's choice (log 42). -/
def Obligations.RingStaysLegal : Prop := ∀ s t : State, RingLegal s.ring → step s = .next t → RingLegal t.ring

/-- O5. R9, R101: every output current stays within 0 to 1536, and every guard record holds what its state says. -/
def Obligations.OutputsStayLegal : Prop := ∀ s t : State, OutputsLegal s → step s = .next t → OutputsLegal t

/-- O6. R132, R154: the engine has no operation exactly in STEADY and a scheduled frame exactly in SCHEDULED. -/
def Obligations.EngineStaysLegal : Prop := ∀ s t : State, EngineLegal s.engine → step s = .next t → EngineLegal t.engine

/-- O7. R159, R164: sector, count, suspended erase and new start record agree with the store's state. -/
def Obligations.StoreStaysLegal : Prop := ∀ s t : State, StoreLegal s.store → step s = .next t → StoreLegal t.store

/-- O8. R174 to R176: a capture has a scheduled frame exactly while it is ARMED with an AT trigger. -/
def Obligations.CaptureStaysLegal : Prop := ∀ s t : State, CaptureLegal s.capture → step s = .next t → CaptureLegal t.capture

/-- O9. R36, R85, R195, R199: the recompute queue never holds a pair twice, the notice queue never a kind twice, and
each notice counts from 1 to 255; and all 76 counters stay within 0 to 65,535. -/
def Obligations.QueuesAndCountersStayLegal : Prop :=
  (∀ s t : State, RecomputesLegal s.decay ∧ NoticesLegal s.notices.queue → step s = .next t →
    RecomputesLegal t.decay ∧ NoticesLegal t.notices.queue) ∧
  ∀ s t : State, CountersLegal s → step s = .next t → CountersLegal t

/-- O10. Every memory keeps its canonical form, and the pool lists no word beyond 262,143 (R55, R202). -/
def Obligations.MemoriesStayLegal : Prop := ∀ s t : State, MemoriesLegal s → step s = .next t → MemoriesLegal t

/-- O11. R6, R66, R95: the pool and the hand-off line hold samples within full scale only. -/
def Obligations.SamplesStayLegal : Prop := ∀ s t : State, SamplesLegal s → step s = .next t → SamplesLegal t

/-- O12. R124, R125, R163, R166: whatever is written, recalled or amended, both banks and the amendment list
hold values within their ranges. -/
def Obligations.TablesStayLegal : Prop := ∀ s t : State, TablesLegal s → step s = .next t → TablesLegal t

/-- O13. R126, R129, R130, R134, R151: whatever becomes active has passed the set check, and nothing that tunes the
active bank makes it fail. Every write position stays inside its line's region. -/
def Obligations.ScenesStayChecked : Prop :=
  ∀ s t : State, TablesLegal s → ScenesPass s → step s = .next t → ScenesPass t

/-- O14. R186, R203: the node number changes at a power-on reset and at nothing else. -/
def Obligations.NodeNumberIsFixed : Prop :=
  ∀ (c : Instr) (s t : State), exec c s = .next t → (∀ straps, c ≠ .powerOnReset straps) → t.node.number = s.node.number

/-- O15. R155, R157: the sectors and the start record are written by the ends of ERASE, WRITE and rewrite and
by an operation cut short; no request and no other event touches them. -/
def Obligations.NonvolatileMemoryIsKept : Prop :=
  ∀ (c : Instr) (s t : State), exec c s = .next t → mayWriteNonvolatile c = false →
    t.store.memory = s.store.memory ∧ t.store.startMemory = s.store.startMemory

/-- O16. R32, R203: while the reset pin is held, an arrival leaves exactly as received and nothing else
happens; every other command but the power-on reset and the loss of supply changes nothing. -/
def Obligations.ResetPinHoldsThePart : Prop :=
  (∀ s : State, s.powered = true → exec .resetPinAssert s = .next { s with resetPin := true }) ∧
  (∀ (f : Frame) (s : State), s.powered = true → s.resetPin = true →
    exec (.arrival f) s = .next { s with out := ⟨none, none, some f⟩ }) ∧
  ∀ (c : Instr) (s : State), s.powered = true → s.resetPin = true → (∀ straps, c ≠ .powerOnReset straps) →
    (∀ f, c ≠ .arrival f) → c ≠ .powerLoss → exec c s = .next s

/-- O17. R34, R190: a request that the node does not execute is not examined: it changes nothing. -/
def Obligations.UnheardRequestsChangeNothing : Prop :=
  ∀ (c : Instr) (h : Header) (r : Request) (s : State), c.request? = some (h, r) → ¬ Heard h s → exec c s = .next s

/-- O18. R127: while the pending bank is locked, for whatever reason, no request changes it, and none swaps
the roles of the banks. -/
def Obligations.LockedPendingBankIsKept : Prop :=
  ∀ (c : Instr) (h : Header) (r : Request) (s t : State), c.request? = some (h, r) → pendingLocked s = true →
    exec c s = .next t → pendingBank t = pendingBank s ∧ t.active = s.active

/-- O19. R122, R126: the per-sample work of a frame period does not read the pending bank: with any other
contents there, it does the same and leaves those contents. Set aside is the one frame period whose install may
be taken before its input samples (R51, log 18): the last of a clearing. -/
def Obligations.SampleWorkIgnoresThePendingBank : Prop :=
  ∀ (env : Env) (boundary : Bool) (s : State) (b : Bank), (s.engine.state = .clearing → s.reverb.clearCount < 63) →
    sampleWork env boundary (setBank s (pendingName s) b) = setBank (sampleWork env boundary s) (pendingName s) b

/-! ### Numbers -/

/-- O20. R3, whole: the table of factors. The middle clause says that F(a) is 65,536 × 10^(−a/320) to the
nearest integer: with n = F(a), (2n − 1) / 131,072 to the power 320 is at most 10^(−a), which is less than
(2n + 1) / 131,072 to that power. The last clauses are what follows for products: unity gain and rnd() give the
value back, silence gives 0, and no other attenuation gives 0 but for the sample 0. -/
def Obligations.FactorTableIsExact : Prop :=
  factor 0 = 65536 ∧ factor 1536 = 0 ∧
  (∀ a : Fin 1536, 1 ≤ a.val → (2 * factor a.val - 1) ^ 320 * 10 ^ a.val ≤ 131072 ^ 320 ∧
    131072 ^ 320 < (2 * factor a.val + 1) ^ 320 * 10 ^ a.val) ∧
  (∀ a : Fin 1536, factor (a.val + 1) ≤ factor a.val ∧ factor a.val ≤ 65536) ∧
  (∀ a : Fin 1536, factor (a.val + 1) = factor a.val → 872 ≤ a.val) ∧
  (∀ a : Fin 1536, factor a.val = 1 ↔ 1485 ≤ a.val) ∧ factor 1484 = 2 ∧ factor 24 = 55142 ∧
  (∀ x : Int, rnd (scaled x 0) = x ∧ scaled x 1536 = 0) ∧
  ∀ (x : Int) (a : Fin 1536), x ≠ 0 → scaled x a.val ≠ 0

/-- O21. R10: a ramp reaches its target. With both rates at least 1, after n steps with n at least the
distance, the current is the target, and no step on the way passes it. -/
def Obligations.RampReachesItsTarget : Prop :=
  ∀ (rise fall target current n : Nat), 1 ≤ rise → 1 ≤ fall →
    (current - target) + (target - current) ≤ n →
    (rampStep rise fall target)^[n] current = target ∧
    ∀ k, min current target ≤ (rampStep rise fall target)^[k] current ∧
      (rampStep rise fall target)^[k] current ≤ max current target

/-- O22. R61, R62, R63: the rows of signs are orthogonal, so the sums h_j of a group carry N times the energy of
its signed line ends; and so do the group sums that the core forms of the line ends of any state, in each of its
feedback groups. -/
def Obligations.MixingKeepsEnergy : Prop :=
  (∀ (order : MatrixOrder) (y : Fin order.size → Int),
    ∑ j : Fin order.size, (∑ k : Fin order.size, mixSign j.val k.val * y k) ^ 2 =
      order.size * ∑ k : Fin order.size, y k ^ 2) ∧
  ∀ (s : State) (g : Nat),
    ∑ j : Fin 16, (if j.val / (activeBank s).globals.order.size = g then groupSum s j ^ 2 else 0) =
      (activeBank s).globals.order.size *
        ∑ k : Fin 16, (if k.val / (activeBank s).globals.order.size = g then lineEnd s k ^ 2 else 0)

/-- O23. R83, R84, whole: the raw result is 20 × L / T to the nearest integer, halves up; the decay
attenuation and the clamp marker are the table of R84; an entry reads length and time when it is taken, and
its completion writes the result of what it read. -/
def Obligations.DecayResultIsTheTable : Prop :=
  (∀ (s : State) (e : BankName × Fin 16), s.decay.current = none → oldestEligible s = some e →
    (decayTake s).decay.current =
      some ⟨e.1, e.2, (bankOf s e.1).lines[e.2].length, (bankOf s e.1).lines[e.2].time⟩) ∧
  (∀ (s : State) (e : DecayEntry), s.decay.current = some e → eligible s e.bank = true →
    (bankOf (decayCompletion s) e.bank).lines[e.line] = { (bankOf s e.bank).lines[e.line] with
      decay := decayOf e.length e.time, clamp := clampOf e.length e.time }) ∧
  ∀ L T : Nat, 100 ≤ T → T ≤ 20000 →
    (decayOf 0 T = 1536 ∧ clampOf 0 T = false) ∧
    (64 ≤ L → L ≤ 65536 →
      rawDecay L T = (40 * L + T) / (2 * T) ∧ rawDecay L T ≤ 13107 ∧ 40 * L + T ≤ 2641440 ∧
      2 * T * rawDecay L T ≤ 40 * L + T ∧ 40 * L + T < 2 * T * (rawDecay L T + 1) ∧
      (rawDecay L T = 0 → decayOf L T = 1 ∧ clampOf L T = true) ∧
      (1 ≤ rawDecay L T → rawDecay L T ≤ 1535 → decayOf L T = rawDecay L T ∧ clampOf L T = false) ∧
      (1536 ≤ rawDecay L T → decayOf L T = 1536 ∧ clampOf L T = true ∧ factor (decayOf L T) = 0) ∧ 1 ≤ decayOf L T ∧ decayOf L T ≤ 1536)

/-! ### Encodings -/

/-- O24. R201: a copy the node sends passes its check at the next member, and sealing it changes no word
before the check. -/
def Obligations.SealedFramePassesItsCheck : Prop :=
  ∀ f : Frame, f.length = 148 → checkCorrect (sealFrame f) = true ∧ (sealFrame f).length = 148 ∧
    (sealFrame f).take 147 = f.take 147

/-- O25. R180, R188, R200: the cell of a request is read back as the request it was built from, with every
field at every value its bits can carry. A malformed kind is one whose code is none of the six, or an ACT. -/
def Obligations.RequestCellRoundTrip : Prop :=
  ∀ (h : Header) (r : Request), h.wellFormed = true → r.wellFormed = true →
    (∀ k, r = .badCell k → k = 4 ∨ 6 ≤ k) → decodeCell (encodeCell h r) = some (h, r) ∧ (encodeCell h r).length = 14

/-- O26. R200, R202: the image of a bank is 1,347 words, and reading it gives the bank back, whatever the
bank held before. -/
def Obligations.BankImageRoundTrip : Prop :=
  ∀ b former : Bank, b.Legal → (encodeBank b).length = 1347 ∧ decodeBank former (encodeBank b) = b

/-- O27. R157, R202: a sector into which an image was written is found VALID and reads back as that image, an
erased sector is EMPTY; a start record that was written is found again, an erased one is not. -/
def Obligations.StoredImagesAreFoundAgain : Prop :=
  (∀ image : List Word, image.length = 1347 →
    scanSector (imageMemory image) = .valid ∧ readImage (imageMemory image) = image) ∧
  scanSector [] = .empty ∧ (∀ r : StartRecord, scanRecord (recordMemory r) = some r) ∧ scanRecord [] = none

/-! ### Pins, ring and oscillator -/

/-- O28. R37, R80, R93, R119, R122, R132, R157, R158, R169, R174, R182, R186, R197: the state after a power-on
reset that cuts no store operation short. That the gap and the acquisition reference are 0 is the model's choice
(log 12), and so is that the start-up recall, which R158 begins in the first frame period, stands begun at once
(log 15). -/
def Obligations.PowerOnResetGivesThePowerOnState : Prop :=
  ∀ (straps : Nat) (s : State), straps < 16 → s.store.state = .idle → s.store.suspended = none → s.store.newRecord = none →
    ∃ t, exec (.powerOnReset straps) s = .next t ∧ t.powered = true ∧ t.resetPin = false ∧
      t.ring = State.reset.ring ∧ t.node = ⟨straps, 4, ⟨Vector.replicate 6 false, Vector.replicate 6 false, Vector.replicate 9 false⟩⟩ ∧
      t.inputs = State.reset.inputs ∧ t.reverb = State.reset.reverb ∧ t.decay = ⟨[], none⟩ ∧
      t.outputs = State.reset.outputs ∧ t.backoff = ⟨0, 0, 0⟩ ∧ t.active = .a ∧ t.bankA = silenceBank ∧
      t.bankB = silenceBank ∧ t.engine = ⟨.steady, .none, none, false, 2⟩ ∧ t.gen = idleGenerator ∧
      t.capture = ⟨.idle, .input 0, .immediate, none, 1, 0, [], false⟩ ∧ t.store.suspended = none ∧
      t.store.amendments = Vector.replicate 8 ⟨false, none, .inputs, 0, 0, 0⟩ ∧ t.pointer = ⟨.pending, .bank .inputs, 0, 1⟩ ∧
      t.badCells = 0 ∧ t.notices.queue = [] ∧ (∀ k : NoticeKind, k ∉ [.storeFailed, .storeBusy] → latched t k = false) ∧
      t.store.memory = s.store.memory ∧
      t.store.startMemory = s.store.startMemory ∧ t.pending = s.pending ∧
      (∀ n : Fin 16, t.store.sectors[n] = scanSector s.store.memory[n]) ∧
      t.store.record = (scanRecord s.store.startMemory).getD defaultRecord ∧
      latched t .storeFailed = (scanRecord s.store.startMemory).isNone ∧
      (∀ n : Fin 16, t.store.record.start = some n → scanSector s.store.memory[n] = .valid →
        t.store.state = .recalling ∧ t.store.sector = some n ∧ t.store.count = 12 ∧ latched t .storeBusy = true) ∧
      ((∀ n : Fin 16, t.store.record.start = some n → scanSector s.store.memory[n] ≠ .valid) →
        t.store.state = .idle ∧ latched t .storeBusy = false)

/-- O29. R157, R167: at a power loss the store is left with no operation, the suspended erase and the
amendment list are lost, and every sector that no ERASE or WRITE was changing is as it was. That all other state
stands until the next power-on reset is the model's reading (log 21). -/
def Obligations.PowerLossEndsTheStore : Prop :=
  ∀ s : State, s.powered = true →
    ∃ t, exec .powerLoss s = .next t ∧ t.powered = false ∧ t.store.state = .idle ∧ t.store.sector = none ∧
      t.store.suspended = none ∧ t.store.amendments = Vector.replicate 8 ⟨false, none, .inputs, 0, 0, 0⟩ ∧
      (∀ n : Fin 16, (s.store.state = .erasing ∨ s.store.state = .writing → s.store.sector ≠ some n) →
        (∀ c, s.store.suspended ≠ some (n, c)) → t.store.memory[n] = s.store.memory[n]) ∧
      (s.store.newRecord = none → t.store.startMemory = s.store.startMemory) ∧
      t = { s with powered := false, store := t.store, draws := t.draws }

/-- O30. R18, R21, R22, R23, R32, R36: an arrival outside LOCKED. In UNLOCKED a good frame starts an acquisition;
in ACQUIRING the classes and numbers of R23, for an arrival that does not complete the run. -/
def Obligations.ArrivalOutsideLocked : Prop :=
  ∀ (f : Frame) (s : State), Works s →
    (s.ring.lock = .unlocked →
      exec (.arrival f) s = .next (match classify f with
        | .good => { s with
            ring := { s.ring with signal := true, gap := 0, lock := .acquiring, acqRun := 1, acqRef := frameNumberOf f }
            out := ⟨none, none, some (sealFrame f)⟩ }
        | .flagged => { s with
            ring := { s.ring with signal := true, gap := 0, flaggedFrames := min (s.ring.flaggedFrames + 1) 65535 }
            out := ⟨none, none, some (sealFrame f)⟩ }
        | .bad => { s with
            ring := { s.ring with signal := true, gap := 0, badFrames := min (s.ring.badFrames + 1) 65535 }
            out := ⟨none, none, some (sealFrame (setUpstreamError f))⟩ })) ∧
    (s.ring.lock = .acquiring →
      (classify f = .good → frameNumberOf f = (s.ring.acqRef + 1) % 16777216 → s.ring.acqRun < 47 →
        exec (.arrival f) s = .next { s with
          ring := { s.ring with signal := true, gap := 0, acqRun := s.ring.acqRun + 1, acqRef := frameNumberOf f }
          out := ⟨none, none, some (sealFrame f)⟩ }) ∧
      (classify f = .good → frameNumberOf f ≠ (s.ring.acqRef + 1) % 16777216 →
        exec (.arrival f) s = .next { s with
          ring := { s.ring with signal := true, gap := 0, lock := .unlocked, acqRun := 0 }
          out := ⟨none, none, some (sealFrame f)⟩ }) ∧
      (classify f = .flagged →
        exec (.arrival f) s = .next { s with
          ring := { s.ring with
            signal := true, gap := 0, acqRef := (s.ring.acqRef + 1) % 16777216
            flaggedFrames := min (s.ring.flaggedFrames + 1) 65535 }
          out := ⟨none, none, some (sealFrame f)⟩ }) ∧
      (classify f = .bad →
        exec (.arrival f) s = .next { s with
          ring := { s.ring with
            signal := true, gap := 0, lock := .unlocked, acqRun := 0, badFrames := min (s.ring.badFrames + 1) 65535 }
          out := ⟨none, none, some (sealFrame (setUpstreamError f))⟩ }))

/-- O31. R23 to R28: what an arrival does to the lock state, the counts and the frame number, where lock is
kept or gained. That the acquisition run is 0 in LOCKED is the model's choice (log 42). -/
def Obligations.ArrivalKeepsLock : Prop :=
  ∀ (f : Frame) (s : State), Works s →
    (s.ring.lock = .acquiring → classify f = .good → frameNumberOf f = (s.ring.acqRef + 1) % 16777216 →
      47 ≤ s.ring.acqRun →
      ∃ t, exec (.arrival f) s = .next t ∧ RingMovedOn s t ∧ t.ring.lock = .locked ∧
        t.ring.frameNumber = frameNumberOf f ∧ t.ring.errors = 0 ∧ t.ring.goodRun = 0 ∧ t.ring.acqRun = 0) ∧
    (s.ring.lock = .locked → classify f = .good → frameNumberOf f = (s.ring.frameNumber + 1) % 16777216 →
      ∃ t, exec (.arrival f) s = .next t ∧ RingMovedOn s t ∧ t.ring.lock = .locked ∧
        t.ring.frameNumber = frameNumberOf f ∧
        (s.ring.goodRun < 1023 → t.ring.goodRun = s.ring.goodRun + 1 ∧ t.ring.errors = s.ring.errors) ∧
        (1023 ≤ s.ring.goodRun → t.ring.goodRun = 0 ∧ t.ring.errors = 0)) ∧
    (s.ring.lock = .locked → classify f = .good → frameNumberOf f ≠ (s.ring.frameNumber + 1) % 16777216 →
      s.ring.errors + 1 < s.node.threshold →
      ∃ t, exec (.arrival f) s = .next t ∧ RingMovedOn s t ∧ t.ring.lock = .locked ∧
        t.ring.frameNumber = frameNumberOf f ∧ t.ring.goodRun = 0 ∧ t.ring.errors = s.ring.errors + 1) ∧
    (s.ring.lock = .locked → classify f = .bad → s.ring.errors + 1 < s.node.threshold →
      ∃ t, exec (.arrival f) s = .next t ∧ RingMovedOn s t ∧ t.ring.lock = .locked ∧
        t.ring.frameNumber = (s.ring.frameNumber + 1) % 16777216 ∧ t.ring.goodRun = 0 ∧
        t.ring.errors = s.ring.errors + 1 ∧ t.ring.badFrames = min (s.ring.badFrames + 1) 65535) ∧
    (s.ring.lock = .locked → classify f = .flagged →
      ∃ t, exec (.arrival f) s = .next t ∧ RingMovedOn s t ∧ t.ring.lock = .locked ∧
        t.ring.frameNumber = (s.ring.frameNumber + 1) % 16777216 ∧ t.ring.goodRun = s.ring.goodRun ∧
        t.ring.errors = s.ring.errors ∧ t.ring.flaggedFrames = min (s.ring.flaggedFrames + 1) 65535)

/-- O32. R26, R27, R29, R32, R50, R115, R146, R173: an error that reaches the threshold ends lock in every
order in which the frame period's work and the loss may be taken. -/
def Obligations.ArrivalLosesLock : Prop :=
  ∀ (f : Frame) (s : State), Works s → s.ring.lock = .locked → s.node.threshold ≤ s.ring.errors + 1 →
    (classify f = .bad ∨ (classify f = .good ∧ frameNumberOf f ≠ (s.ring.frameNumber + 1) % 16777216)) →
    ∃ t, exec (.arrival f) s = .next t ∧ RingMovedOn s t ∧ t.ring.lock = .unlocked ∧ t.ring.errors = 0 ∧
      t.ring.goodRun = 0 ∧ t.ring.frameNumber = (s.ring.frameNumber + 1) % 16777216 ∧
      t.ring.lockLosses = min (s.ring.lockLosses + 1) 65535 ∧
      (∀ i : Fin 24, t.inputs[i].state = .unbound ∨ t.inputs[i].state = .absent) ∧
      (∀ m : Fin 32, t.outputs[m].current = 1536) ∧ t.gen.running = false ∧ t.engine.state ≠ .scheduled ∧
      t.out.frame = some (sealFrame (match classify f with
        | .bad => setUpstreamError f
        | .good | .flagged => f))

/-- O33. R24, R30, R31, R33, R34, R35, R196, R201: the outgoing copy of a frame in LOCKED that does not end lock, and
of the frame that completes acquisition, the first of LOCKED. An own
slot carries the sample delivered two frame periods before, marked; every other slot and marker is as received;
the error flag tells a frame that was not good; and the copy passes its check. The cell of a frame that is not good, an
ANSWER, a NOTICE and a REQUEST that names another node leave as received; a REQUEST that names this node leaves as its
ANSWER, with its tag and kind; an IDLE cell takes the oldest notice of the queue. -/
def Obligations.LockedFrameIsForwarded : Prop :=
  ∀ (f : Frame) (s : State), Works s → f.length = 148 →
    (s.ring.lock = .locked ∧ (classify f = .bad ∨
          (classify f = .good ∧ frameNumberOf f ≠ (s.ring.frameNumber + 1) % 16777216) →
        s.ring.errors + 1 < s.node.threshold) ∨
      s.ring.lock = .acquiring ∧ classify f = .good ∧ frameNumberOf f = (s.ring.acqRef + 1) % 16777216 ∧
        47 ≤ s.ring.acqRun) →
    ∃ t g, exec (.arrival f) s = .next t ∧ t.out.frame = some g ∧ g.length = 148 ∧ checkCorrect g = true ∧
      frameNumberOf g = frameNumberOf f ∧ (upstreamError g = true ↔ classify f ≠ .good) ∧
      (∀ (n : Fin 128) (m : Fin 32), (activeBank s).outputs[m].slot = some n →
        (∀ k : Fin 32, (activeBank s).outputs[k].slot = some n → k = m) →
        validMarker g n.val = true ∧ wordAt g (5 + n.val) = sampleWord s.ring.handFront[m]) ∧
      (∀ n : Fin 128, (∀ k : Fin 32, (activeBank s).outputs[k].slot ≠ some n) →
        validMarker g n.val = validMarker f n.val ∧ wordAt g (5 + n.val) = wordAt f (5 + n.val)) ∧
      (classify f ≠ .good → cellOf g = cellOf f) ∧
      (2 ≤ cellKind (cellOf f) → cellOf g = cellOf f) ∧
      (classify f = .good → cellKind (cellOf f) = 1 →
        (field (wordAt (cellOf f) 0) 4 4 ≠ s.node.number → cellOf g = cellOf f) ∧
        (field (wordAt (cellOf f) 0) 4 4 = s.node.number →
          ∃ a, t.out.answer = some a ∧ cellOf g = answerCell a ∧ a.node = s.node.number ∧
            a.tag = field (wordAt (cellOf f) 0) 24 8 ∧ a.kind = field (wordAt (cellOf f) 0) 8 4)) ∧
      (classify f = .good → cellKind (cellOf f) = 0 →
        (s.notices.queue = [] → s.node.enables = ⟨Vector.replicate 6 false, Vector.replicate 6 false, Vector.replicate 9 false⟩ →
          cellOf g = cellOf f) ∧
        ∀ e q, s.notices.queue = e :: q → e.count ≤ 255 →
          ∃ n p, t.out.notice = some (n, p) ∧ cellOf g = noticeCell s.node.number n p ∧ n.kind = e.kind ∧
            n.first = e.first ∧ e.count ≤ n.count ∧ ∀ x ∈ q, ∃ y ∈ t.notices.queue, y.kind = x.kind ∧ y.first = x.first)

/-- O34. R19, R20, R21, R31, R37: a tick of the oscillator. Outside LOCKED it is a frame period, whose work O35 and
O36 state; in LOCKED it only counts the gap; the fourth without an arrival is signal loss. The first number and the tick in LOCKED are the
model's readings (logs 16 and 17). -/
def Obligations.OscillatorTicks : Prop :=
  ∀ s : State, Works s →
    (s.ring.lock ≠ .locked → (s.ring.signal = true → s.ring.gap < 3) →
      ∃ t, exec .oscillatorFramePeriod s = .next t ∧ t.started = true ∧ t.ring.lock = s.ring.lock ∧
        t.ring.frameNumber = (if s.started then (s.ring.frameNumber + 1) % 16777216 else 0) ∧
        t.ring.handFront = s.ring.handBack ∧ t.ring.signal = s.ring.signal ∧
        t.ring.gap = (if s.ring.signal then s.ring.gap + 1 else s.ring.gap) ∧ t.out = ⟨none, none, none⟩) ∧
    (s.ring.lock = .locked → s.ring.signal = true → s.ring.gap < 3 →
      exec .oscillatorFramePeriod s =
        .next { s with ring := { s.ring with gap := s.ring.gap + 1 }, out := ⟨none, none, none⟩ }) ∧
    (s.ring.signal = true → 3 ≤ s.ring.gap →
      ∃ t, exec .oscillatorFramePeriod s = .next t ∧ t.ring.lock = .unlocked ∧ t.ring.signal = false)

/-- O35. R19, R26 to R28, R33, R41, R42, R44 to R46, R48, R58 to R60, R62 to R69, R77, R82, R95, R96, R141, R172, R174,
R176, R177: the per-sample work of a frame period of an arrival or of the oscillator that is no block boundary and whose
cell asks nothing of the node. Every used line is written at its write position with the saturated sum of its injections
and its feedback, all formed from the words before the writes; every output delivers its trimmed tap sum and the
generator's sample; a running capture records the value of its point; no other word, no current and no bank changes. In a
clearing frame period the next 4,096 words are zeroed instead, and the tap sums are 0. That the applied attenuation of an
unused line is formed like that of a used one (log 29), and the number 0 of the first oscillator frame period (log 16), are
the model's readings. CLIP, CAPTURE_DONE and the edge of INPUT_MISSING are latched where they occur, and no other flag; the
notice queue keeps the entries of the other kinds, but for the oldest, which leaves in an IDLE cell. -/
def Obligations.FramePeriodComputes : Prop :=
  ∀ (c : Instr) (f u : Option Frame) (n : Nat) (s : State), PlainPeriod c f u n s → n % 64 ≠ 0 → MemoriesLegal s →
    ScenesPass s →
    let b := activeBank s
    let writeAddress (j : Fin 16) : Nat := b.lines[j].base + s.reverb.position[j]
    let advanced : Generator := { s.gen with
      remaining := s.gen.remaining - 1, first := false
      noise := if s.gen.kind = .noise then (1664525 * s.gen.noise + 1013904223) % 4294967296 else s.gen.noise }
    ∃ t, exec c s = .next t ∧ t.started = true ∧ t.ring.frameNumber = n ∧ t.ring.lock = s.ring.lock ∧
      t.ring.handFront = s.ring.handBack ∧ (s.ring.lock = .locked → RingMovedOn s t) ∧
      (∀ i : Fin 24, t.inputs[i] = if b.inputs[i].slot.isSome = true then
        inputAfter b.inputs[i] (arrivedSample u b.inputs[i]) s.inputs[i] else s.inputs[i]) ∧
      (s.reverb.clearing = false →
        (∀ j : Fin 16, b.lines[j].length ≠ 0 →
          Cells.read 0 t.reverb.pool (writeAddress j) = sat (rnd (expectedLine u s j)) ∧
          t.reverb.position[j] = (s.reverb.position[j] + 1) % b.lines[j].length ∧
          (sat (rnd (expectedLine u s j)) = rnd (expectedLine u s j) → t.reverb.lineClips[j] = s.reverb.lineClips[j]) ∧
          (sat (rnd (expectedLine u s j)) ≠ rnd (expectedLine u s j) →
            t.reverb.lineClips[j] = min (s.reverb.lineClips[j] + 1) 65535 ∧ latched t .clip = true)) ∧
        (∀ j : Fin 16, b.lines[j].length = 0 →
          t.reverb.position[j] = s.reverb.position[j] ∧ t.reverb.lineClips[j] = s.reverb.lineClips[j]) ∧
        (∀ a, (∀ j : Fin 16, b.lines[j].length ≠ 0 → a ≠ writeAddress j) →
          Cells.read 0 t.reverb.pool a = Cells.read 0 s.reverb.pool a) ∧
        (∀ j : Fin 16, t.reverb.applied[j] = min (s.reverb.lineCurrent[j] + s.backoff.level) 1536 ∧
          t.reverb.lastEnd[j] = lineWordBack s j 0) ∧
        t.reverb.clearing = false ∧ t.reverb.clearCount = s.reverb.clearCount ∧
        t.reverb.injectionCurrent = s.reverb.injectionCurrent ∧ t.reverb.lineCurrent = s.reverb.lineCurrent ∧
        t.reverb.tapCurrent = s.reverb.tapCurrent) ∧
      (s.reverb.clearing = true →
        t.reverb = { s.reverb with
          pool := t.reverb.pool, clearCount := s.reverb.clearCount + 1, lastEnd := Vector.replicate 16 0 } ∧
        ∀ a, Cells.read 0 t.reverb.pool a =
          if 4096 * s.reverb.clearCount ≤ a ∧ a < 4096 * s.reverb.clearCount + 4096 then 0
          else Cells.read 0 s.reverb.pool a) ∧
      (∀ m : Fin 32,
        t.ring.handBack[m] = sat (expectedOutput s m + expectedGenerator s m) ∧
        t.outputs[m] = { s.outputs[m] with
          runningPeak := max s.outputs[m].runningPeak (expectedOutput s m).natAbs, clips := t.outputs[m].clips } ∧
        (OutputClips s m → t.outputs[m].clips = min (s.outputs[m].clips + 1) 65535 ∧ latched t .clip = true) ∧
        (¬ OutputClips s m → t.outputs[m].clips = s.outputs[m].clips)) ∧
      (s.gen.next = none →
        (s.gen.running = true → 2 ≤ s.gen.remaining → t.gen = advanced) ∧
        (s.gen.running = true → s.gen.remaining = 1 → t.gen = { advanced with running := false }) ∧
        (s.gen.running = false → t.gen = s.gen)) ∧
      (CaptureRuns n s →
        t.capture = { s.capture with
          state := if s.capture.wanted ≤ s.capture.captured + 1 then .done else .running
          scheduled := if s.capture.state = .armed then none else s.capture.scheduled
          triggered := if s.capture.state = .armed then false else s.capture.triggered
          captured := s.capture.captured + 1, words := t.capture.words } ∧
        (∀ k, Cells.read 0 t.capture.words k =
          if k = s.capture.captured then expectedPoint f u s s.capture.point else Cells.read 0 s.capture.words k) ∧
        (s.capture.wanted ≤ s.capture.captured + 1 → latched t .captureDone = true)) ∧
      (¬ CaptureRuns n s → t.capture = s.capture) ∧
      ((∀ m : Fin 32, s.outputs[m].current = 1536 ∧ expectedGenerator s m = 0) →
        t.engine = { s.engine with quiet := min (s.engine.quiet + 1) 2 }) ∧
      ((∃ m : Fin 32, s.outputs[m].current ≠ 1536 ∨ expectedGenerator s m ≠ 0) →
        t.engine = { s.engine with quiet := 0 }) ∧
      t.backoff = s.backoff ∧ t.decay = s.decay ∧ t.store = s.store ∧ t.bankA = s.bankA ∧ t.bankB = s.bankB ∧
      t.active = s.active ∧ t.node = s.node ∧ t.pointer = s.pointer ∧ t.badCells = s.badCells ∧
      NoticesMoved [.clip, .captureDone, .inputMissing] u s t ∧
      (latched t .clip = true ↔ latched s .clip = true ∨ (∃ m : Fin 32, OutputClips s m) ∨
        s.reverb.clearing = false ∧ ∃ j : Fin 16, b.lines[j].length ≠ 0 ∧
          sat (rnd (expectedLine u s j)) ≠ rnd (expectedLine u s j)) ∧
      (latched t .captureDone = true ↔ latched s .captureDone = true ∨
        CaptureRuns n s ∧ s.capture.wanted ≤ s.capture.captured + 1) ∧
      (latched t .inputMissing = true ↔ latched s .inputMissing = true ∨
        levelHigh s .inputMissing ≠ levelHigh t .inputMissing)

/-- O36. R10, R15, R44, R49, R70 to R72, R76, R77, R97, R98, R102 to R106, R110, R111, R141, R142, R145, R159: the work of a
block boundary, of an arrival or of the oscillator, in every engine state, with no result of the Decay Calculator due in
the active bank and no store operation at its end. In FADE_OUT it starts the clearing where every current has reached 1536
and the quiet run stood at 2; in FADE_IN it ends the operation where every current has reached its target. The number 0 of
the first oscillator frame period is the model's reading (log 16). The flags of the guards, the backoff, the engine, the
capture and the inputs are latched where their occurrences come. -/
def Obligations.BlockBoundaryWork : Prop :=
  ∀ (c : Instr) (f u : Option Frame) (n : Nat) (s : State), PlainPeriod c f u n s → n % 64 = 0 →
    (s.started = true ∨ s.marks.store = false) →
    (∀ e : DecayEntry, s.decay.current = some e → e.bank ≠ s.active) → (s.store.state = .idle ∨ 2 ≤ s.store.count) →
    let b := activeBank s
    let atLimit (m : Fin 32) : Prop := ∃ p, profileOf b m = some p ∧
      p.sustain ≤ (if p.samples ≤ (s.outputs[m].runningPeak : Int) then s.outputs[m].guard.count + 1 else 0) ∧
      p.maximum ≤ s.outputs[m].guard.g + p.duck
    ∃ t, exec c s = .next t ∧ t.started = true ∧ t.ring.frameNumber = n ∧ t.ring.lock = s.ring.lock ∧
      t.ring.handFront = s.ring.handBack ∧ (s.ring.lock = .locked → RingMovedOn s t) ∧
      t.active = s.active ∧ activeBank t = b ∧
      t.store = (if s.store.state = .idle then s.store else { s.store with count := s.store.count - 1 }) ∧
      (∀ m : Fin 32, t.outputs[m].lastPeak = s.outputs[m].runningPeak ∧
        t.outputs[m].guard = (match profileOf b m with
          | some p => guardAfter p s.outputs[m].runningPeak s.outputs[m].guard
          | none => s.outputs[m].guard) ∧
        t.outputs[m].current = steppedToward s (expectedTarget s t m) s.outputs[m].current) ∧
      ((∀ m : Fin 32, ¬ atLimit m) → t.backoff = backoffCounted s) ∧
      ((∃ m : Fin 32, atLimit m) → latched t .guardLimit = true ∧ t.backoff.level ≤ b.globals.backoffMaximum ∧
        t.backoff.hold = b.globals.backoffHold ∧ t.backoff.interval = b.globals.backoffInterval) ∧
      (∀ i : Fin 24,
        (t.inputs[i].state ≠ .admitted ∨ s.inputs[i].state = .admitted →
          t.inputs[i].current = steppedToward s b.inputs[i].attenuation s.inputs[i].current) ∧
        (t.inputs[i].state = .admitted → s.inputs[i].state ≠ .admitted →
          t.inputs[i].current = 1536 ∨ t.inputs[i].current = steppedToward s b.inputs[i].attenuation 1536)) ∧
      (∀ k : Fin 128, t.reverb.injectionCurrent[k] =
        steppedToward s b.injections[k].attenuation s.reverb.injectionCurrent[k]) ∧
      (∀ j : Fin 16, t.reverb.lineCurrent[j] = steppedToward s b.lines[j].decay s.reverb.lineCurrent[j]) ∧
      (∀ k : Fin 512, t.reverb.tapCurrent[k] = steppedToward s b.taps[k].attenuation s.reverb.tapCurrent[k]) ∧
      ((∀ m : Fin 32, t.outputs[m].current = 1536 ∧ expectedGenerator s m = 0) →
        t.engine.quiet = min (s.engine.quiet + 1) 2) ∧
      ((∃ m : Fin 32, t.outputs[m].current ≠ 1536 ∨ expectedGenerator s m ≠ 0) → t.engine.quiet = 0) ∧
      (let starts : Prop := s.engine.state = .fadeOut ∧ s.engine.quiet = 2 ∧ ∀ m : Fin 32, t.outputs[m].current = 1536
       let ends : Prop := s.engine.state = .fadeIn ∧ ∀ m : Fin 32, t.outputs[m].current = expectedTarget s t m
       (starts → t.engine = { s.engine with state := .clearing, quiet := t.engine.quiet } ∧ t.reverb.clearing = true ∧
         t.reverb.clearCount = 0) ∧
       (ends → t.engine = { s.engine with state := .steady, operation := .none, owed := false, quiet := t.engine.quiet } ∧
         latched t .sceneBusy = true ∧
         ((∃ mode, s.engine.operation = .commit mode) ∨ (s.engine.operation = .reset ∧ s.engine.owed = true) →
           latched t .commitDone = true)) ∧
       (¬ starts → ¬ ends → t.engine = { s.engine with quiet := t.engine.quiet }) ∧
       (¬ starts → t.reverb.clearing = s.reverb.clearing ∧
         t.reverb.clearCount = (if s.reverb.clearing = true then s.reverb.clearCount + 1 else s.reverb.clearCount)) ∧
       (latched t .sceneBusy = true ↔ latched s .sceneBusy = true ∨ ends) ∧
       (latched t .commitDone = true ↔ latched s .commitDone = true ∨ ends ∧
         ((∃ mode, s.engine.operation = .commit mode) ∨ (s.engine.operation = .reset ∧ s.engine.owed = true)))) ∧
      NoticesMoved [.inputMissing, .guardActive, .backoffActive, .sceneBusy, .commitDone, .captureDone, .guardLimit, .clip,
        .decayClamped] u s t ∧
      (latched t .guardLimit = true ↔ latched s .guardLimit = true ∨ ∃ m : Fin 32, atLimit m) ∧
      (latched t .guardActive = true ↔ latched s .guardActive = true ∨
        ¬ ((∃ m : Fin 32, s.outputs[m].guard.state ≠ .watch) ↔ ∃ m : Fin 32, t.outputs[m].guard.state ≠ .watch)) ∧
      (latched t .backoffActive = true ↔ latched s .backoffActive = true ∨
        ¬ (0 < s.backoff.level ↔ 0 < (backoffCounted s).level) ∨
        ¬ (0 < (backoffCounted s).level ↔ 0 < t.backoff.level)) ∧
      (latched t .captureDone = true ↔ latched s .captureDone = true ∨
        CaptureRuns n s ∧ s.capture.wanted ≤ s.capture.captured + 1) ∧
      (latched t .inputMissing = true ↔ latched s .inputMissing = true ∨
        levelHigh s .inputMissing ≠ levelHigh t .inputMissing)

/-- O37. R19, R21, R23, R24, R25, R29, R50, R115, R146, R173, R176: the events of the lock machine. Signal loss in each
lock state, then the events of LOCKED and its acquisition, given one by one where they can come about. As commands
they bring their own cause, which is the model's choice (log 10): SIGNAL_LOSS whenever the flag is set, whatever
the gap; LOCK_ACQUIRED with the arrival that completes acquisition, so that the frame number counts on from it (log 16).
That LOCK_ACQUIRED leaves the signal-present flag and the gap, and does no work of a block boundary, and that
GOOD_RUN_COMPLETE and LOCK_LOSS move neither the frame number nor the gap, is its choice too (log 10), and so are the run and reference held in LOCKED and
the run after a lock loss (log 42). An enabled rise of RING_LOCKED is taken into the notice queue (R194, R195). -/
def Obligations.LockEvents : Prop :=
  ∀ s : State, Works s →
    (s.ring.signal = false → exec .signalLoss s = .next s) ∧
    (s.ring.signal = true →
      (s.ring.lock = .unlocked →
        exec .signalLoss s = .next { s with ring := { s.ring with signal := false, gap := 0 } }) ∧
      (s.ring.lock = .acquiring →
        exec .signalLoss s =
          .next { s with ring := { s.ring with signal := false, gap := 0, lock := .unlocked, acqRun := 0 } }) ∧
      (s.ring.lock = .locked →
        ∃ t, exec .signalLoss s = .next t ∧ t.ring.signal = false ∧ t.ring.gap = 0 ∧ LockIsLost s t)) ∧
    (s.ring.lock = .acquiring → s.ring.acqRun = 47 →
      ∃ t, exec .lockAcquired s = .next t ∧ latched t .ringLocked = true ∧
        (s.node.enables.rise[0] = true →
          TakesOccurrence ((s.ring.acqRef + 1) % 16777216) .ringLocked .rise s.notices.queue t.notices.queue) ∧
        (s.node.enables.rise[0] = false → t.notices.queue = s.notices.queue) ∧
        SameButNotices { s with
          started := true
          ring := { s.ring with
            lock := .locked, errors := 0, goodRun := 0, acqRun := 0,
            acqRef := (s.ring.acqRef + 1) % 16777216, frameNumber := (s.ring.acqRef + 1) % 16777216 } } t) ∧
    (s.ring.lock = .locked → s.ring.goodRun = 1023 →
      exec .goodRunComplete s = .next { s with ring := { s.ring with errors := 0, goodRun := 0 } }) ∧
    (s.ring.lock = .locked →
      ∃ t, exec .lockLoss s = .next t ∧ t.ring.signal = s.ring.signal ∧ t.ring.gap = s.ring.gap ∧ LockIsLost s t)

/-! ### Events of the other blocks -/

/-- O38. R41, R42, R44, R46: an admission and a drop, where the next sample brings them. As commands they bring that
sample with them, which is the model's choice (log 10). -/
def Obligations.InputEvents : Prop :=
  ∀ (i : Fin 24) (s : State), Works s →
    (s.ring.lock = .locked → ((activeBank s).inputs[i].slot).isSome = true →
      (s.inputs[i].state = .absent ∧ (activeBank s).inputs[i].admitCount ≤ 1 ∨
        s.inputs[i].state = .qualifying ∧ (activeBank s).inputs[i].admitCount ≤ s.inputs[i].qualify + 1) →
      ∃ t, exec (.inputAdmission i) s = .next t ∧
        SameButNotices { s with inputs := setAt s.inputs i ⟨.admitted, 0, 0, 1536, s.inputs[i].invalid⟩ } t) ∧
    (s.inputs[i].state = .admitted → (activeBank s).inputs[i].dropLimit ≤ s.inputs[i].invalidRun →
      ∃ t, exec (.inputDrop i) s = .next t ∧
        SameButNotices { s with
          inputs := setAt s.inputs i ⟨.absent, 0, 0, s.inputs[i].current, min (s.inputs[i].invalid + 1) 65535⟩ } t)

/-- O39. R172, R176, R177: the end of a burst, with the noise state that its last sample leaves; the start of a
capture and its completion. As commands they bring their own cause, which is the model's choice: CAPTURE_START comes
whatever the frame of an AT trigger (log 10), and CAPTURE_COMPLETE carries the last value as its operand (log 34). -/
def Obligations.MeasurementEvents : Prop :=
  ∀ s : State, Works s →
    (s.gen.running = true → s.gen.remaining = 1 →
      exec .burstEnd s = .next { s with gen := { s.gen with
        running := false, remaining := 0, first := false
        noise := if s.gen.kind = .noise then (1664525 * s.gen.noise + 1013904223) % 4294967296 else s.gen.noise } }) ∧
    (s.gen.running = true → s.gen.remaining = 0 →
      exec .burstEnd s = .next { s with gen := { s.gen with running := false, first := false } }) ∧
    (s.capture.state = .armed → s.capture.trigger ≠ .withGenerator ∨ s.capture.triggered = true →
      exec .captureStart s =
        .next { s with capture := { s.capture with state := .running, scheduled := none, triggered := false } }) ∧
    (∀ value : Sample, s.capture.state = .running → s.capture.wanted = s.capture.captured + 1 →
      ∃ t, exec (.captureComplete value) s = .next t ∧ latched t .captureDone = true ∧
        (Cells.wf 0 s.capture.words = true → ∀ k, Cells.read 0 t.capture.words k =
          if k = s.capture.captured then value else Cells.read 0 s.capture.words k) ∧
        SameButNotices { s with capture := { s.capture with
          state := .done, captured := s.capture.captured + 1, words := t.capture.words } } t)

/-- O40. R102 to R106, R110, R111, R114: a detection, a hold's expiry and a recovery step of the guard of one
output, and the backoff interval running out. As commands they bring their own cause, which is the model's choice
(log 10). -/
def Obligations.GuardAndBackoffEvents : Prop :=
  (∀ (m : Fin 32) (p : ProfileRec) (s : State), Works s → profileOf (activeBank s) m = some p →
    (p.sustain ≤ sustainAfter p s.outputs[m] →
      ∃ t, exec (.guardDetection m) s = .next t ∧
        SameButNotices { s with
          outputs := setAt s.outputs m { s.outputs[m] with
            guard := ⟨.ducked, min (s.outputs[m].guard.g + p.duck) p.maximum, 0, p.hold, 0⟩ }
          backoff := if p.maximum ≤ s.outputs[m].guard.g + p.duck then
            ⟨min (s.backoff.level + (activeBank s).globals.backoffStep) (activeBank s).globals.backoffMaximum,
              (activeBank s).globals.backoffHold, (activeBank s).globals.backoffInterval⟩ else s.backoff } t ∧
        (p.maximum ≤ s.outputs[m].guard.g + p.duck → latched t .guardLimit = true)) ∧
    (sustainAfter p s.outputs[m] < p.sustain → s.outputs[m].guard.state = .ducked → s.outputs[m].guard.hold ≤ 1 →
      ∃ t, exec (.guardHoldExpiry m) s = .next t ∧
        SameButNotices { s with outputs := setAt s.outputs m { s.outputs[m] with
          guard := ⟨.recovering, s.outputs[m].guard.g, sustainAfter p s.outputs[m], 0, p.recovery⟩ } } t) ∧
    (sustainAfter p s.outputs[m] < p.sustain → s.outputs[m].guard.state = .recovering →
      s.outputs[m].guard.recovery ≤ 1 →
      ∃ t, exec (.guardRecoveryStep m) s = .next t ∧
        SameButNotices { s with outputs := setAt s.outputs m { s.outputs[m] with
          guard := if s.outputs[m].guard.g ≤ 1 then ⟨.watch, 0, sustainAfter p s.outputs[m], 0, 0⟩ else
            ⟨.recovering, s.outputs[m].guard.g - 1, sustainAfter p s.outputs[m], 0, p.recovery⟩ } } t)) ∧
  ∀ s : State, Works s → s.backoff.hold = 0 → 0 < s.backoff.level → s.backoff.interval ≤ 1 →
    (∀ m : Fin 32, s.outputs[m].guard.state ≠ .ducked) →
    ∃ t, exec .backoffIntervalExpiry s = .next t ∧
      SameButNotices { s with backoff := ⟨s.backoff.level - 1, 0, (activeBank s).globals.backoffInterval⟩ } t ∧
      (s.backoff.level = 1 → latched t .backoffActive = true)

/-- O41. R83, R84, R87, R88: the take of the oldest entry, and a completion. Under the engine reason an entry of the
pending bank is neither taken nor completed: the take passes over those that wait, and one in progress stays. As commands
they bring their own block boundary, which is the model's choice (log 10). -/
def Obligations.DecayEvents : Prop :=
  ∀ s : State, Works s →
    let held (bank : BankName) : Prop := engineReason s = true ∧ bank = pendingName s
    (∀ (n : BankName) (j : Fin 16) (before behind : List (BankName × Fin 16)), s.decay.current = none →
      s.decay.queue = before ++ (n, j) :: behind → (∀ e ∈ before, held e.1) → ¬ held n →
      exec .decayTake s = .next { s with
        decay := ⟨before ++ behind, some ⟨n, j, (bankOf s n).lines[j].length, (bankOf s n).lines[j].time⟩⟩ }) ∧
    (s.decay.current ≠ none ∨ (∀ e ∈ s.decay.queue, held e.1) → exec .decayTake s = .next s) ∧
    (∀ e : DecayEntry, s.decay.current = some e → ¬ held e.bank →
      ∃ t, exec .decayCompletion s = .next t ∧ t.decay = ⟨s.decay.queue, none⟩ ∧
        bankOf t e.bank = { bankOf s e.bank with
          lines := setAt (bankOf s e.bank).lines e.line { (bankOf s e.bank).lines[e.line] with
            decay := if e.length = 0 then 1536 else max 1 (min ((40 * e.length + e.time) / (2 * e.time)) 1536)
            clamp := e.length != 0 && ((40 * e.length + e.time) / (2 * e.time) == 0 ||
              decide (1536 ≤ (40 * e.length + e.time) / (2 * e.time))) } } ∧
        bankOf t e.bank.other = bankOf s e.bank.other ∧
        t = { s with decay := t.decay, bankA := t.bankA, bankB := t.bankB, notices := t.notices } ∧
        ((bankOf t e.bank).lines[e.line].clamp = true → latched t .decayClamped = true)) ∧
    ((∀ e : DecayEntry, s.decay.current = some e → held e.bank) → exec .decayCompletion s = .next s)

/-! ### Scene Engine -/

/-- O42. R76, R131, R135, R138 to R140, R142, R145, R153: the execution of the scheduled commit, SMOOTH between
compatible banks in mode AUTO and otherwise a CUT; the start of the clearing; the end of FADE_IN. As commands they
bring their own cause, which is the model's choice (log 10): COMMIT_EXECUTION whatever the scheduled frame. -/
def Obligations.CommitExecutesAndEnds : Prop :=
  (∀ (mode : CommitMode) (s : State), Works s → s.engine.state = .scheduled → s.engine.operation = .commit mode →
    (mode = .auto ∧ compatible s.bankA s.bankB = true →
      ∃ t, exec .commitExecution s = .next t ∧ t.active = s.active.other ∧
        t.engine = { s.engine with state := .steady, operation := .none, scheduled := none } ∧
        latched t .commitDone = true ∧ latched t .sceneBusy = true ∧
        (∀ m : Fin 32, t.outputs[m] = { s.outputs[m] with guard := (match profileOf (pendingBank s) m with
          | some p =>
            { s.outputs[m].guard with
              g := min s.outputs[m].guard.g p.maximum
              hold := min s.outputs[m].guard.hold p.hold
              recovery := min s.outputs[m].guard.recovery p.recovery }
          | none => ⟨.watch, 0, 0, 0, 0⟩) }) ∧
        t.backoff = ⟨min s.backoff.level (pendingBank s).globals.backoffMaximum,
          min s.backoff.hold (pendingBank s).globals.backoffHold,
          min s.backoff.interval (pendingBank s).globals.backoffInterval⟩ ∧
        t = { s with
          active := t.active, engine := t.engine, outputs := t.outputs, backoff := t.backoff, notices := t.notices }) ∧
    (¬ (mode = .auto ∧ compatible s.bankA s.bankB = true) →
      exec .commitExecution s = .next { s with
        engine := { s.engine with state := .fadeOut, scheduled := none }
        gen := { s.gen with running := false, remaining := 0, first := false, next := none } })) ∧
  ∀ s : State, Works s →
    (s.engine.state = .fadeOut → (∀ m : Fin 32, s.outputs[m].current = 1536) → s.engine.quiet = 2 →
      exec .clearingStart s = .next { s with
        engine := { s.engine with state := .clearing }
        reverb := { s.reverb with clearing := true, clearCount := 0 }
        marks := { s.marks with clear := true } }) ∧
    (s.engine.state = .fadeIn → (∀ m : Fin 32, s.outputs[m].current = outputTarget s m) →
      ∃ t, exec .fadeInEnd s = .next t ∧ latched t .sceneBusy = true ∧
        ((∃ mode, s.engine.operation = .commit mode) ∨ (s.engine.operation = .reset ∧ s.engine.owed = true) →
          latched t .commitDone = true) ∧
        SameButNotices { s with engine := { s.engine with state := .steady, operation := .none, owed := false } } t)

/-- O43. R51, R75, R77, R78, R118, R128, R144, R153, R163: the 64th clearing frame period ends with the install of
the bank that is then active. A recall whose count ran out while the engine held it completes after the install; a
start-up recall then makes no commit (R151). As a command it brings the last clearing frame period with it, which is
the model's choice (log 10). In a frame period of the oscillator a held recall completes as well, whether the install
comes before or after the input samples (log 18), and an erase it resumes is not counted there (R164). -/
def Obligations.ClearingCompletesWithInstall : Prop :=
  ∀ s : State, Works s → s.reverb.clearing = true → s.reverb.clearCount = 63 → s.engine.state = .clearing →
    (¬ (recallReason s = true ∧ s.store.count = 0) →
      ∃ t, exec .clearingComplete s = .next t ∧ t.engine = { s.engine with state := .fadeIn } ∧
        ((∃ mode, s.engine.operation = .commit mode) → t.active = s.active.other) ∧
        (s.engine.operation = .reset → t.active = s.active) ∧ t.bankA = s.bankA ∧ t.bankB = s.bankB ∧
        t.reverb.clearing = false ∧ t.reverb.clearCount = 0 ∧ (∀ j : Fin 16, t.reverb.position[j] = 0) ∧
        t.reverb.lineClips = s.reverb.lineClips ∧
        (∀ n : Fin 128, t.reverb.injectionCurrent[n] = (activeBank t).injections[n].attenuation) ∧
        (∀ j : Fin 16, t.reverb.lineCurrent[j] = (activeBank t).lines[j].decay) ∧
        (∀ k : Fin 512, t.reverb.tapCurrent[k] = (activeBank t).taps[k].attenuation) ∧
        (∀ c ∈ t.reverb.pool, c ∈ s.reverb.pool ∧ (c.1 < 258048 ∨ 262144 ≤ c.1)) ∧
        (∀ i : Fin 24, t.inputs[i] = ⟨if ((activeBank t).inputs[i].slot).isSome then .absent else .unbound, 0, 0,
          (activeBank t).inputs[i].attenuation, s.inputs[i].invalid⟩) ∧
        (∀ m : Fin 32, t.outputs[m] = ⟨1536, 0, 0, ⟨.watch, 0, 0, 0, 0⟩, s.outputs[m].clips⟩) ∧
        t.backoff = ⟨0, 0, 0⟩ ∧ t.store = s.store ∧ t.decay = s.decay) ∧
    (∀ (n : Fin 16) (b : Bank), recallReason s = true → s.store.count = 0 → s.store.sector = some n → b.Legal →
      s.store.image = encodeBank b → (∀ k : Fin 8, s.store.amendments[k].inUse = false) →
      ∃ t, exec .clearingComplete s = .next t ∧ t.engine = { s.engine with state := .fadeIn } ∧
        ((∃ mode, s.engine.operation = .commit mode) → t.active = s.active.other ∧ activeBank t = pendingBank s) ∧
        (s.engine.operation = .reset → t.active = s.active ∧ activeBank t = activeBank s) ∧ pendingBank t = b ∧
        latched t .storeDone = true ∧ (s.store.startUp = true → latched t .commitCancelled = true) ∧
        (s.store.suspended = none → t.store.state = .idle ∧ t.store.sector = none ∧ latched t .storeBusy = true) ∧
        ∀ k c, s.store.suspended = some (k, c) →
          t.store.state = .erasing ∧ t.store.sector = some k ∧ t.store.count = c ∧ t.store.suspended = none) ∧
    (∀ n : Fin 16, s.ring.lock ≠ .locked → (s.ring.signal = true → s.ring.gap < 3) → recallReason s = true →
      s.store.count = 0 → s.store.sector = some n →
      ∃ t, exec .oscillatorFramePeriod s = .next t ∧ t.engine.state = .fadeIn ∧ t.engine.operation = s.engine.operation ∧
        t.reverb.clearing = false ∧ latched t .storeDone = true ∧
        (s.store.startUp = true → latched t .commitCancelled = true) ∧
        ((∃ mode, s.engine.operation = .commit mode) → t.active = s.active.other) ∧
        (s.engine.operation = .reset → t.active = s.active) ∧
        (s.store.suspended = none → t.store.state = .idle ∧ t.store.sector = none ∧ latched t .storeBusy = true) ∧
        ∀ k c, s.store.suspended = some (k, c) →
          t.store.state = .erasing ∧ t.store.sector = some k ∧ t.store.count = c ∧ t.store.suspended = none)

/-! ### Scene Store -/

/-- O44. R160, R161, R165: the ends of ERASE, WRITE and a start-record rewrite, whichever way the memory's
verification goes (log 6). As commands they bring the last block boundary with them (log 10). -/
def Obligations.StoreOperationsEnd : Prop :=
  ∀ (n : Fin 16) (s : State), Works s → s.store.count ≤ 1 →
    (s.store.state = .erasing → s.store.sector = some n →
      ∃ t, exec .eraseCompletion s = .next t ∧ t.store.state = .idle ∧ t.store.sector = none ∧
        latched t .storeBusy = true ∧
        (t.store.sectors = setAt s.store.sectors n .empty ∧ t.store.memory = setAt s.store.memory n [] ∧
            latched t .storeDone = true ∨
          t.store.sectors = setAt s.store.sectors n .failed ∧ latched t .storeFailed = true) ∧
        (∀ k : Fin 16, k ≠ n → t.store.memory[k] = s.store.memory[k]) ∧ t.store.record = s.store.record ∧
        t.store.startMemory = s.store.startMemory ∧ t.store.amendments = s.store.amendments ∧
        t = { s with store := t.store, notices := t.notices, draws := t.draws }) ∧
    (s.store.state = .writing → s.store.sector = some n →
      ∃ t, exec .writeCompletion s = .next t ∧ t.store.state = .idle ∧ t.store.sector = none ∧
        latched t .storeBusy = true ∧
        (t.store.sectors = setAt s.store.sectors n .valid ∧
            t.store.memory = setAt s.store.memory n (imageMemory s.store.image) ∧ latched t .storeDone = true ∨
          t.store.sectors = setAt s.store.sectors n .failed ∧ latched t .storeFailed = true) ∧
        (∀ k : Fin 16, k ≠ n → t.store.memory[k] = s.store.memory[k]) ∧ t.store.record = s.store.record ∧
        t.store.startMemory = s.store.startMemory ∧ t.store.amendments = s.store.amendments ∧
        t = { s with store := t.store, notices := t.notices, draws := t.draws }) ∧
    (∀ r : StartRecord, s.store.state = .updating → s.store.newRecord = some r →
      ∃ t, exec .startRecordRewriteEnd s = .next t ∧ t.store.state = .idle ∧ t.store.sector = none ∧
        latched t .storeBusy = true ∧
        (t.store.record = r ∧ t.store.startMemory = recordMemory r ∧ latched t .storeDone = true ∨
          t.store.record = s.store.record ∧ latched t .storeFailed = true) ∧
        t.store.memory = s.store.memory ∧ t.store.sectors = s.store.sectors ∧
        t.store.amendments = s.store.amendments ∧
        t = { s with store := t.store, notices := t.notices, draws := t.draws })

/-- O45. R128, R163, R164: a recall that no amendment touches puts the stored bank into the pending bank, and
a suspended erase resumes with the count it held. While the engine reason holds it does not complete; that the command
then changes nothing at all, its count included, is the model's choice (log 10). -/
def Obligations.RecallRestoresTheStoredBank : Prop :=
  ∀ (n : Fin 16) (b : Bank) (s : State), Works s → s.store.count ≤ 1 → s.store.sector = some n →
    s.store.startUp = false → b.Legal → s.store.image = encodeBank b →
    (∀ k : Fin 8, s.store.amendments[k].inUse = false) →
    (s.store.state = .recalling ∧ s.store.suspended = none ∨
      s.store.state = .eraseSuspended ∧ s.store.suspended.isSome = true) →
    (engineReason s = false →
      ∃ t, exec .recallCompletion s = .next t ∧ pendingBank t = b ∧ activeBank t = activeBank s ∧
        t.decay = s.decay ∧ latched t .storeDone = true ∧ t.store.memory = s.store.memory ∧
        (s.store.suspended = none → t.store.state = .idle ∧ t.store.sector = none ∧ latched t .storeBusy = true) ∧
        (∀ k c, s.store.suspended = some (k, c) →
          t.store.state = .erasing ∧ t.store.sector = some k ∧ t.store.count = c ∧ t.store.suspended = none) ∧
        t = { s with bankA := t.bankA, bankB := t.bankB, store := t.store, notices := t.notices, draws := t.draws }) ∧
    (engineReason s = true → exec .recallCompletion s = .next s)

/-- O46. R90, R93, R129, R131, R139, R140, R151, R163, R164, R166: a recall with amendments, and the commit that follows the
start-up recall. Each field takes the value of the last amendment in use for the sector that names it, else the stored
one; then a guard maximum below its duck step is raised to it, and the name ends at its first code 0. Every line whose
length or time the amendments changed waits for a recompute; a suspended erase resumes with the count it held. The start-up
commit finds the engine in STEADY, no recompute waiting for the pending bank and the set check passed, or is cancelled. The
model's choices: that the name is cut at its first code 0 only after all the amendments (log 24), that a recompute cancels
the start-up commit (log 39), and that the command brings the last block boundary with it (log 10). -/
def Obligations.RecallAmendsAndStartsUp : Prop :=
  ∀ (n : Fin 16) (b : Bank) (s : State), Works s → s.store.count ≤ 1 → s.store.sector = some n → b.Legal →
    s.store.image = encodeBank b → (∀ k : Fin 8, s.store.amendments[k].Legal) → engineReason s = false →
    (s.store.state = .recalling ∧ s.store.suspended = none ∨
      s.store.state = .eraseSuspended ∧ s.store.suspended.isSome = true) →
    let amended (t : BankTable) (i k : Nat) : Nat := amendedField s.store n b t i k
    let changed (j : Fin 16) : Prop := amended .lines j 1 ≠ b.lines[j].length ∨ amended .lines j 3 ≠ b.lines[j].time
    let busy : Prop := s.engine.state ≠ .steady ∨ (∃ j, (pendingName s, j) ∈ s.decay.queue) ∨
      (∃ e, s.decay.current = some e ∧ e.bank = pendingName s) ∨ ∃ j, changed j
    ∃ (c : Bank) (t : State), exec .recallCompletion s = .next t ∧
      (∀ (tab : BankTable) (i k : Nat), (tab = .profiles → k ≠ 3) → (tab = .globals → k ≤ 6) →
        c.fieldAt tab i k = amended tab i k) ∧
      (∀ p : Fin 4, c.profiles[p].maximum = max (amended .profiles p 3) (amended .profiles p 2) ∧
        c.profiles[p].samples = rnd (8388607 * factor c.profiles[p].threshold)) ∧
      c.globals.name = nameBytes ((List.range 4).map (fun k => word (amended .globals 0 (7 + k)))) ∧
      t.decay.current = s.decay.current ∧
      (∀ j : Fin 16, (pendingName s, j) ∈ t.decay.queue ↔ (pendingName s, j) ∈ s.decay.queue ∨ changed j) ∧
      (∀ j : Fin 16, (s.active, j) ∈ t.decay.queue ↔ (s.active, j) ∈ s.decay.queue) ∧
      latched t .storeDone = true ∧
      (s.store.suspended = none → t.store.state = .idle ∧ t.store.sector = none ∧ latched t .storeBusy = true) ∧
      (∀ k q, s.store.suspended = some (k, q) →
        t.store.state = .erasing ∧ t.store.sector = some k ∧ t.store.count = q ∧ t.store.suspended = none) ∧
      t.store.amendments = s.store.amendments ∧ t.store.memory = s.store.memory ∧
      (s.store.startUp = false → t.active = s.active ∧ t.engine = s.engine ∧ pendingBank t = c ∧
        activeBank t = activeBank s) ∧
      (s.store.startUp = true →
        (busy ∨ (setCheck c).isSome = true → latched t .commitCancelled = true ∧ t.active = s.active ∧
          t.engine = s.engine ∧ pendingBank t = c ∧ activeBank t = activeBank s) ∧
        (¬ busy → setCheck c = none →
          (compatible (activeBank s) c = true → latched t .commitDone = true ∧ t.active = s.active.other ∧
            activeBank t = c ∧ pendingBank t = activeBank s ∧ t.engine.state = .steady ∧ t.engine.operation = .none) ∧
          (compatible (activeBank s) c = false → latched t .sceneBusy = true ∧ t.active = s.active ∧
            activeBank t = activeBank s ∧ pendingBank t = c ∧ t.engine.state = .fadeOut ∧
            t.engine.operation = .commit .auto ∧ t.gen.running = false)))

/-! ### Requests: the pointer, the tables, the status record -/

/-- O47. R183: AIM sets the pointer whole or is refused RANGE; WHERE returns it as the AIM parameter word. -/
def Obligations.PointerRequests : Prop :=
  ∀ (h : Header) (s : State), Heard h s →
    (∀ view table index step, (∀ p, pointer? view table index step = some p →
        exec (.aim h view table index step) s = .next (answered h 0 { result := .done } { s with pointer := p })) ∧
      (pointer? view table index step = none →
        exec (.aim h view table index step) s = .next (answered h 0 { result := .range } s)) ∧
      (pointer? view table index step = none ↔
        2 ≤ view ∨ 15 ≤ table ∨ 2 ≤ step ∨ ∀ t, table? table = some t → t.size ≤ index) ∧
      (∀ p, pointer? view table index step = some p →
        p.view.code = view ∧ p.table.code = table ∧ p.index = index ∧ p.step = step)) ∧
    exec (.wherePointer h) s = .next (answered h 1 { result := .done, payload :=
      [word (s.pointer.view.code % 2 + 2 * (s.pointer.step % 2) + 256 * (s.pointer.table.code % 256) +
        65536 * (s.pointer.index % 8192))] } s)

/-- O48. R189, R198, R200: STATUS changes nothing and returns the sixteen fields of the status record. -/
def Obligations.StatusReturnsTheRecord : Prop :=
  ∀ (h : Header) (s : State), Heard h s → RingLegal s.ring → s.backoff.level ≤ 480 → RecomputesLegal s.decay →
    NoticesLegal s.notices.queue → s.capture.captured ≤ 4096 →
    (∀ f, s.engine.scheduled = some f → f < 16777216) →
    ∃ w0 w1 w2 w3 w4 w5 : Word,
      exec (.status h) s = .next (answered h 5 { result := .done, payload := [w0, w1, w2, w3, w4, w5] } s) ∧
      field w0 0 2 = 2 ∧ field w0 2 1 = s.active.code ∧ field w0 4 3 = s.engine.state.code ∧
      bitOf w0 7 = s.gen.running ∧ field w0 8 3 = s.store.state.code ∧ field w0 12 2 = s.capture.state.code ∧
      field w1 0 24 = s.ring.frameNumber ∧
      (∀ f, s.engine.scheduled = some f → field w2 0 24 = f ∧ bitOf w2 31 = false) ∧
      (s.engine.scheduled = none → bitOf w2 31 = true) ∧
      field w3 0 8 = identityCode s.store.sector ∧ field w3 16 13 = s.capture.captured ∧
      field w4 0 9 = s.backoff.level ∧ field w4 16 6 = outputsNotInWatch s ∧ field w4 24 6 = recomputeLength s ∧
      (∀ k : Fin 15, bitOf w5 k.val = s.notices.flags[k]) ∧
      (∀ k : NoticeKind, k ∈ levelKinds → bitOf w5 (16 + k.code.val) = levelHigh s k) ∧
      field w5 24 4 = s.notices.queue.length

/-- O49. R124, R184, R185: a record PUT into the pending bank, for each of the seven bank tables. Every field
in range is written as carried, the answer is DONE with count 1, the pointer advances by its step, and of the
state nothing else changes but, for LINES, the recompute queue (R86). -/
def Obligations.PutWritesThePendingBank : Prop :=
  ∀ (h : Header) (s : State) (payload : List Word) (table : BankTable), Heard h s → pendingLocked s = false →
    s.pointer.view = .pending → s.pointer.table = .bank table →
    let b := pendingBank s
    let done (c : Bank) : State := answered h 2 { result := .done, count := 1 }
      { setBank s (pendingName s) c with pointer := { s.pointer with index := s.pointer.index + s.pointer.step } }
    (∀ (i : Fin 24) (r : InputRec), table = .inputs → s.pointer.index = i.val → r.Legal →
      payload = payload12 (encodeInput r) →
      exec (.put h 1 payload) s = .next (done { b with inputs := setAt b.inputs i r })) ∧
    (∀ (i : Fin 128) (r : InjectionRec), table = .injections → s.pointer.index = i.val → r.Legal →
      payload = payload12 (encodeInjection r) →
      exec (.put h 1 payload) s = .next (done { b with injections := setAt b.injections i r })) ∧
    (∀ (i : Fin 16) (r : LineRec), table = .lines → s.pointer.index = i.val → r.Legal →
      payload = payload12 (encodeLine r) →
      exec (.put h 1 payload) s = .next (
        let d := done { b with lines := setAt b.lines i { r with decay := b.lines[i].decay, clamp := b.lines[i].clamp } }
        if r.length = b.lines[i].length ∧ r.time = b.lines[i].time ∨ (pendingName s, i) ∈ s.decay.queue then d
        else { d with decay := { s.decay with queue := s.decay.queue ++ [(pendingName s, i)] } })) ∧
    (∀ (i : Fin 512) (r : TapRec), table = .taps → s.pointer.index = i.val → r.Legal →
      payload = payload12 (encodeTap r) →
      exec (.put h 1 payload) s = .next (done { b with taps := setAt b.taps i r })) ∧
    (∀ (i : Fin 32) (r : OutputRec), table = .outputs → s.pointer.index = i.val → r.Legal →
      payload = payload12 (encodeOutput r) →
      exec (.put h 1 payload) s = .next (done { b with outputs := setAt b.outputs i r })) ∧
    (∀ (i : Fin 4) (r : ProfileRec), table = .profiles → s.pointer.index = i.val → r.Legal →
      payload = payload12 (encodeProfile r) →
      exec (.put h 1 payload) s = .next (done { b with profiles := setAt b.profiles i r })) ∧
    (∀ r : GlobalsRec, table = .globals → s.pointer.index = 0 → r.Legal →
      payload = payload12 (encodeGlobals r) →
      exec (.put h 1 payload) s = .next (done { b with globals := r }))

/-- O50. R16, R86, R124, R125, R166, R184, R186, R200: how a PUT of one record treats what it carries. Into a table of the
pending bank: a field that does not accept its value refuses the record whole, RANGE; otherwise every field takes its
carried value clamped to its range, and one clamp makes the answer CLAMPED. Into NODE: the node number is ignored.
Into AMENDMENTS: the value is treated as a write of the named field. An amendment with a reason for RANGE that
names a read-only field is answered RANGE, the model's choice (log 40); and so is the treatment of an amended name word,
whose characters after its own first code 0 are taken as 0 and whose others are made printable (log 24). -/
def Obligations.PutTreatsEveryField : Prop :=
  ∀ (h : Header) (s : State) (payload : List Word), Heard h s →
    let refused (code : ResultCode) : Prop := exec (.put h 1 payload) s = .next (answered h 2 { result := code } s)
    let written (clamped : Prop) (u : State) : Prop := ∃ code, (clamped → code = .clamped) ∧ (¬ clamped → code = .done) ∧
      exec (.put h 1 payload) s = .next (answered h 2 { result := code, count := 1 }
        { u with pointer := { s.pointer with index := s.pointer.index + s.pointer.step } })
    (∀ t : BankTable, pendingLocked s = false → s.pointer.view = .pending → s.pointer.table = .bank t →
      s.pointer.index < t.size →
      let i := s.pointer.index
      let b := pendingBank s
      ((∃ r ∈ fieldRules t, ¬ r.accepts (r.carried payload)) → refused .range) ∧
      ((∀ r ∈ fieldRules t, r.accepts (r.carried payload)) →
        ∃ c d, written (RecordClamped t payload) { setBank s (pendingName s) c with decay := d } ∧
        RecordTaken t i payload b c ∧
        (t ≠ .lines → d = s.decay) ∧
        ∀ j : Fin 16, t = .lines → i = j.val → d = { s.decay with queue :=
          if c.lines[j].length = b.lines[j].length ∧ c.lines[j].time = b.lines[j].time ∨ (pendingName s, j) ∈ s.decay.queue
          then s.decay.queue else s.decay.queue ++ [(pendingName s, j)] })) ∧
    (s.pointer.table = .node → s.pointer.index = 0 →
      let threshold := field (wordAt payload 0) 8 8
      written (¬ (1 ≤ threshold ∧ threshold ≤ 15)) { s with node := { s.node with
        threshold := max 1 (min threshold 15)
        enables := ⟨Vector.ofFn (fun k => bitOf (wordAt payload 1) k.val),
          Vector.ofFn (fun k => bitOf (wordAt payload 1) (8 + k.val)),
          Vector.ofFn (fun k => bitOf (wordAt payload 1) (16 + k.val))⟩ } }) ∧
    ∀ a : Fin 8, s.pointer.table = .amendments → s.pointer.index = a.val →
      let code := field (wordAt payload 0) 8 8
      let table := field (wordAt payload 0) 16 8
      let k := field (wordAt payload 0) 24 8
      let i := field (wordAt payload 1) 0 16
      let x := (wordAt payload 2).toNat
      let stored (sector : Option (Fin 16)) (t : BankTable) (v : Nat) : State := { s with store := { s.store with
        amendments := setAt s.store.amendments a ⟨bitOf (wordAt payload 0) 0, sector, t, i, k, v⟩ } }
      (16 ≤ code ∧ code ≠ 255 ∨ 7 ≤ table → refused .range) ∧
      ∀ (sector : Option (Fin 16)) (t : BankTable), identityCode sector = code → t.code = table →
        (t.size ≤ i ∨ t.fields ≤ k → refused .range) ∧
        (i < t.size → t = .lines → k = 4 ∨ k = 5 → refused .refused) ∧
        (∀ r, i < t.size → (fieldRules t)[k]? = some r →
          (¬ r.accepts x → refused .range) ∧ (r.accepts x → written (r.treated x ≠ x) (stored sector t (r.treated x)))) ∧
        (i < t.size → t = .globals → 7 ≤ k → k ≤ 10 →
          written (nameWordClamped x = true) (stored sector t (nameWordValue x)))

/-- O51. R86, R100, R107, R112, R124 to R126, R185: live writes through the ACTIVE view. A field that does not accept its
value refuses the record RANGE before its structure is compared; then a structural difference, a tap count above 64
among them, is REFUSED; equal structure takes the live fields, clamped and answered CLAMPED where a range asks it. A
changed profile resets the output's guard, a changed reverberation time waits for a recompute, a written profile and
written GLOBALS bring what they bound within them. The first clause is for every record carried, the others for legal records, table by table. -/
def Obligations.PutTunesTheActiveBank : Prop :=
  ∀ (h : Header) (s : State) (payload : List Word), Heard h s → s.pointer.view = .active →
    let b := activeBank s
    let written (code : ResultCode) (t : State) (u : State) : Prop :=
      exec (.put h 1 payload) s = .next u ∧ SameButNotices (answered h 2 { result := code, count := 1 }
        { t with pointer := { s.pointer with index := s.pointer.index + s.pointer.step } }) u
    let put (t : State) (u : State) : Prop := written .done t u
    let refusedWith (code : ResultCode) : Prop := exec (.put h 1 payload) s = .next (answered h 2 { result := code } s)
    let refused : Prop := refusedWith .refused
    (∀ t : BankTable, s.pointer.table = .bank t → s.pointer.index < t.size →
      let i := s.pointer.index
      let differs : Prop := ∃ k ∈ structuralFields t, ∃ r, (fieldRules t)[k]? = some r ∧ r.carried payload ≠ b.fieldAt t i k
      ((∃ r ∈ fieldRules t, ¬ r.accepts (r.carried payload)) → refusedWith .range) ∧
      ((∀ r ∈ fieldRules t, r.accepts (r.carried payload)) → differs → refused) ∧
      ((∀ r ∈ fieldRules t, r.accepts (r.carried payload)) → ¬ differs →
        ∃ code c u, (RecordClamped t payload → code = .clamped) ∧ (¬ RecordClamped t payload → code = .done) ∧
          written code { setBank s s.active c with decay := u.decay, outputs := u.outputs, backoff := u.backoff } u ∧
          RecordTaken t i payload b c ∧
          u.decay.current = s.decay.current ∧ (t ≠ .lines → u.decay = s.decay) ∧
          (∀ j : Fin 16, t = .lines → i = j.val → u.decay.queue =
            if c.lines[j].time = b.lines[j].time ∨ (s.active, j) ∈ s.decay.queue then s.decay.queue
            else s.decay.queue ++ [(s.active, j)]) ∧
          (∀ m : Fin 32, u.outputs[m] = { s.outputs[m] with guard :=
            if t = .outputs ∧ i = m.val ∧ c.outputs[m].profile ≠ b.outputs[m].profile then ⟨.watch, 0, 0, 0, 0⟩
            else match c.outputs[m].profile with
              | some p => if t = .profiles ∧ i = p.val then
                  { s.outputs[m].guard with
                    g := min s.outputs[m].guard.g c.profiles[p].maximum
                    hold := min s.outputs[m].guard.hold c.profiles[p].hold
                    recovery := min s.outputs[m].guard.recovery c.profiles[p].recovery }
                else s.outputs[m].guard
              | none => s.outputs[m].guard }) ∧
          u.backoff = (if t = .globals then ⟨min s.backoff.level c.globals.backoffMaximum,
            min s.backoff.hold c.globals.backoffHold, min s.backoff.interval c.globals.backoffInterval⟩ else s.backoff))) ∧
    (∀ (m : Fin 32) (r : OutputRec), s.pointer.table = .bank .outputs → s.pointer.index = m.val → r.Legal →
      payload = payload12 (encodeOutput r) →
      ((r.slot, r.firstTap, r.tapCount) ≠ (b.outputs[m].slot, b.outputs[m].firstTap, b.outputs[m].tapCount) →
        refused) ∧
      ((r.slot, r.firstTap, r.tapCount) = (b.outputs[m].slot, b.outputs[m].firstTap, b.outputs[m].tapCount) →
        ∃ u, put { setBank s s.active { b with outputs := setAt b.outputs m r } with
          outputs := if r.profile = b.outputs[m].profile then s.outputs else
            setAt s.outputs m { s.outputs[m] with guard := ⟨.watch, 0, 0, 0, 0⟩ } } u)) ∧
    (∀ (i : Fin 24) (r : InputRec), s.pointer.table = .bank .inputs → s.pointer.index = i.val → r.Legal →
      payload = payload12 (encodeInput r) →
      (r.slot ≠ b.inputs[i].slot → refused) ∧
      (r.slot = b.inputs[i].slot → ∃ u, put (setBank s s.active { b with inputs := setAt b.inputs i r }) u)) ∧
    (∀ (n : Fin 128) (r : InjectionRec), s.pointer.table = .bank .injections → s.pointer.index = n.val → r.Legal →
      payload = payload12 (encodeInjection r) →
      ((r.input, r.line) ≠ (b.injections[n].input, b.injections[n].line) → refused) ∧
      ((r.input, r.line) = (b.injections[n].input, b.injections[n].line) →
        ∃ u, put (setBank s s.active { b with injections := setAt b.injections n r }) u)) ∧
    (∀ (j : Fin 16) (r : LineRec), s.pointer.table = .bank .lines → s.pointer.index = j.val → r.Legal →
      payload = payload12 (encodeLine r) →
      ((r.base, r.length, r.sign) ≠ (b.lines[j].base, b.lines[j].length, b.lines[j].sign) → refused) ∧
      ((r.base, r.length, r.sign) = (b.lines[j].base, b.lines[j].length, b.lines[j].sign) →
        ∃ u, put { setBank s s.active { b with lines := setAt b.lines j { b.lines[j] with time := r.time } } with
          decay := { s.decay with queue :=
            if r.time = b.lines[j].time ∨ (s.active, j) ∈ s.decay.queue then s.decay.queue
            else s.decay.queue ++ [(s.active, j)] } } u)) ∧
    (∀ (k : Fin 512) (r : TapRec), s.pointer.table = .bank .taps → s.pointer.index = k.val → r.Legal →
      payload = payload12 (encodeTap r) →
      ((r.line, r.offset, r.sign) ≠ (b.taps[k].line, b.taps[k].offset, b.taps[k].sign) → refused) ∧
      ((r.line, r.offset, r.sign) = (b.taps[k].line, b.taps[k].offset, b.taps[k].sign) →
        ∃ u, put (setBank s s.active { b with taps := setAt b.taps k r }) u)) ∧
    (∀ (p : Fin 4) (r : ProfileRec), s.pointer.table = .bank .profiles → s.pointer.index = p.val → r.Legal →
      payload = payload12 (encodeProfile r) →
      ∃ u, put { setBank s s.active { b with profiles := setAt b.profiles p r } with
        outputs := changeAll s.outputs (fun m o => if b.outputs[m].profile = some p then
          { o with guard := { o.guard with
            g := min o.guard.g r.maximum, hold := min o.guard.hold r.hold, recovery := min o.guard.recovery r.recovery } }
          else o) } u) ∧
    (∀ r : GlobalsRec, s.pointer.table = .bank .globals → s.pointer.index = 0 → r.Legal →
      payload = payload12 (encodeGlobals r) →
      (r.order ≠ b.globals.order → refused) ∧
      (r.order = b.globals.order →
        ∃ u, put { setBank s s.active { b with globals := r } with
          backoff := ⟨min s.backoff.level r.backoffMaximum, min s.backoff.hold r.backoffHold,
            min s.backoff.interval r.backoffInterval⟩ } u))

/-- O52. R127, R184, R185, R187: refusals of a PUT, each with count 0 and nothing changed: a locked pending
bank, the place past the end, a read-only table. That one past the end of a read-only table is answered RANGE and not
REFUSED is the model's choice (log 26). A PUT of several records is its first record, and then, unless that one is
refused, the PUT of the others: the records before a refused one stay written and are counted, and one clamped record
makes the whole CLAMPED. -/
def Obligations.PutRecordByRecord : Prop :=
  ∀ (h : Header) (count : Nat) (payload : List Word) (s : State), Heard h s →
    (∀ (u : State) (a : Answer), 1 ≤ count → count ≤ 3 → (count + 1) * s.pointer.table.words ≤ 12 →
      h.target = s.node.number → exec (.put h 1 payload) s = .next u → u.out.answer = some a →
      (a.result ≠ .done → a.result ≠ .clamped →
        exec (.put h (count + 1) payload) s = .next u ∧ a.count = 0) ∧
      (a.result = .done ∨ a.result = .clamped →
        ∀ (v : State) (b : Answer), exec (.put h count (payload.drop s.pointer.table.words)) u = .next v →
          v.out.answer = some b →
          ∃ w, exec (.put h (count + 1) payload) s = .next w ∧ SameButReports v w ∧
            w.out.answer = some { b with
              count := b.count + 1, result := if b.result = .done then a.result else b.result })) ∧
    (1 ≤ count → count ≤ 4 → count * s.pointer.table.words ≤ 12 →
      ((∃ t, s.pointer.table = .bank t) → s.pointer.view = .pending → pendingLocked s = true →
        exec (.put h count payload) s = .next (answered h 2 { result := .locked } s)) ∧
      (s.pointer.index = s.pointer.table.size → (s.pointer.view = .active ∨ pendingLocked s = false) →
        exec (.put h count payload) s = .next (answered h 2 { result := .range } s)) ∧
      (s.pointer.table ∈ [.inputState, .lineState, .outputState, .counters, .capture, .sectors] →
        s.pointer.index < s.pointer.table.size →
        exec (.put h count payload) s = .next (answered h 2 { result := .refused } s)))

/-- O53. R39, R82, R121, R166, R168, R179, R184, R186, R187, R199, R200: a TAKE of one counter returns it and
sets it to 0; a TAKE of a bank record, of a node table or of a read-only table but COUNTERS returns the entry with each
field in the bits that R200 gives it and changes only the pointer; a CAPTURE entry is BUSY while the capture is ARMED or RUNNING and RANGE beyond the captured
length; past the end every TAKE is RANGE. -/
def Obligations.TakeReads : Prop :=
  ∀ (h : Header) (s : State), Heard h s →
    let moved (t : State) : State := { t with pointer := { s.pointer with index := s.pointer.index + s.pointer.step } }
    (s.pointer.table = .counters → s.pointer.index < 76 →
      exec (.take h 1) s = .next (answered h 3
        { result := .done, count := 1, payload := [word (counterValue s s.pointer.index % 65536)] }
        (moved (clearCounter s.pointer.index s))) ∧
      RecordShows s .counters s.pointer.index [word (counterValue s s.pointer.index % 65536)] ∧
      counterValue (clearCounter s.pointer.index s) s.pointer.index = 0 ∧
      ∀ i, i < 76 → i ≠ s.pointer.index → counterValue (clearCounter s.pointer.index s) i = counterValue s i) ∧
    (∀ (t : TableName) (words : List Word), s.pointer.table = t → s.pointer.index < t.size →
      ((∃ k : Fin 8, t = .amendments ∧ s.pointer.index = k.val ∧ words = encodeAmendment s.store.amendments[k]) ∨
        (t = .node ∧ words = encodeNode s.node) ∨
        (∃ i : Fin 24, t = .inputState ∧ s.pointer.index = i.val ∧ words = inputStateWords s.inputs[i]) ∨
        (∃ j : Fin 16, t = .lineState ∧ s.pointer.index = j.val ∧ words = lineStateWords s j) ∨
        (∃ m : Fin 32, t = .outputState ∧ s.pointer.index = m.val ∧ words = outputStateWords s m) ∨
        (t = .outputState ∧ s.pointer.index = 32 ∧ words = backoffWords s.backoff) ∨
        (∃ n : Fin 16, t = .sectors ∧ s.pointer.index = n.val ∧ words = sectorEntryWords s.store n) ∨
        (t = .sectors ∧ s.pointer.index = 16 ∧ words = startRecordWords s.store)) →
      words.length = t.words ∧ RecordShows s t s.pointer.index words ∧
        exec (.take h 1) s = .next (answered h 3 { result := .done, count := 1, payload := words } (moved s))) ∧
    (∀ t, s.pointer.table = .bank t → s.pointer.index < t.size →
      let words := readBank (bankOf s (viewName s s.pointer.view)) t s.pointer.index
      words.length = (TableName.bank t).words ∧ RecordShows s (.bank t) s.pointer.index words ∧
        exec (.take h 1) s = .next (answered h 3 { result := .done, count := 1, payload := words } (moved s))) ∧
    (s.pointer.table = .capture → s.pointer.index < 4096 →
      (s.capture.state = .armed ∨ s.capture.state = .running →
        exec (.take h 1) s = .next (answered h 3 { result := .busy } s)) ∧
      (s.capture.state = .done ∨ s.capture.state = .idle → s.capture.captured ≤ s.pointer.index →
        exec (.take h 1) s = .next (answered h 3 { result := .range } s)) ∧
      (s.capture.state = .done → s.pointer.index < s.capture.captured →
        RecordShows s .capture s.pointer.index [sampleWord (Cells.read 0 s.capture.words s.pointer.index)] ∧
        exec (.take h 1) s = .next (answered h 3
          { result := .done, count := 1, payload := [sampleWord (Cells.read 0 s.capture.words s.pointer.index)] }
          (moved s)))) ∧
    (s.pointer.index = s.pointer.table.size → exec (.take h 1) s = .next (answered h 3 { result := .range } s))

/-- O54. R190, R192, R194, R195: a malformed cell, of whichever kind, is counted, reported and answered REFUSED, and
nothing else changes. An enabled BAD_CELL is taken into the notice queue, one that is not enabled is not. -/
def Obligations.MalformedCellsAreCounted : Prop :=
  ∀ (c : Instr) (h : Header) (r : Request) (s : State), Heard h s → c.request? = some (h, r) →
    ((∃ kind, r = .badCell kind) ∨
      (∃ count, ((∃ payload, r = .put count payload) ∨ r = .take count) ∧
        (count = 0 ∨ 4 < count ∨ 12 < count * s.pointer.table.words))) →
    ∃ t, exec c s = .next t ∧ (∀ k, latched t k = true ↔ latched s k = true ∨ k = .badCell) ∧
      (s.node.enables.pulse[8] = true →
        TakesOccurrence s.ring.frameNumber .badCell .none s.notices.queue t.notices.queue) ∧
      (s.node.enables.pulse[8] = false → t.notices.queue = s.notices.queue) ∧
      SameButNotices (answered h r.kindCode { result := .refused } { s with badCells := min (s.badCells + 1) 65535 }) t

/-! ### Requests: Scene Engine -/

/-- O55. R134, R135, R137: a COMMIT is refused by the first test that fails and changes nothing; accepted AT a
frame it is scheduled; accepted NOW as a CUT it enters FADE_OUT, as SMOOTH it swaps the roles. -/
def Obligations.CommitRequest : Prop :=
  ∀ (h : Header) (mode : CommitMode) (timing : Timing) (s : State), Heard h s →
    let busy : Prop := s.engine.state ≠ .steady ∨ s.store.state = .writing ∨ s.store.state = .recalling ∨
      s.store.state = .eraseSuspended ∨ (∃ j, (pendingName s, j) ∈ s.decay.queue) ∨
      (∃ e, s.decay.current = some e ∧ e.bank = pendingName s)
    (busy → exec (.commit h mode timing) s = .next (answered h 4 { result := .busy } s)) ∧
    (¬ busy → ∀ d, setCheck (pendingBank s) = some d →
      exec (.commit h mode timing) s = .next (answered h 4 { result := .inconsistent, detail := some d } s)) ∧
    (¬ busy → setCheck (pendingBank s) = none →
      (∀ f, timing = .atFrame f →
        (1 ≤ distance f s.ring.frameNumber ∧ distance f s.ring.frameNumber ≤ 65535 →
          ∃ t, exec (.commit h mode timing) s = .next t ∧ latched t .sceneBusy = true ∧
            SameButNotices (answered h 4 { result := .done }
              { s with engine := { s.engine with state := .scheduled, operation := .commit mode, scheduled := some f } }) t) ∧
        (¬ (1 ≤ distance f s.ring.frameNumber ∧ distance f s.ring.frameNumber ≤ 65535) →
          exec (.commit h mode timing) s = .next (answered h 4 { result := .range } s))) ∧
      (timing = .now → (mode = .cut ∨ compatible s.bankA s.bankB = false) →
        ∃ t, exec (.commit h mode timing) s = .next t ∧ latched t .sceneBusy = true ∧
          SameButNotices (answered h 4 { result := .done }
            { s with
              engine := { s.engine with state := .fadeOut, operation := .commit mode, scheduled := none }
              gen := { s.gen with running := false, remaining := 0, first := false, next := none } }) t) ∧
      (timing = .now → mode = .auto → compatible s.bankA s.bankB = true →
        ∃ t, exec (.commit h mode timing) s = .next t ∧ t.active = s.active.other ∧ t.bankA = s.bankA ∧
          t.bankB = s.bankB ∧ t.engine.state = .steady ∧ t.engine.operation = .none ∧
          latched t .commitDone = true ∧ t.inputs = s.inputs ∧ t.reverb = s.reverb ∧
          (∀ m : Fin 32, t.outputs[m].current = s.outputs[m].current) ∧
          (h.target = s.node.number → answerCode t = some .done)))

/-- O56. R147, R148: the table of CANCEL. -/
def Obligations.CancelTable : Prop :=
  ∀ (h : Header) (s : State), Heard h s →
    (s.engine.state = .steady → exec (.cancel h) s = .next (answered h 4 { result := .nothing } s)) ∧
    (s.engine.state = .scheduled ∨ (s.engine.state = .fadeOut ∧ ∃ mode, s.engine.operation = .commit mode) →
      ∃ t, exec (.cancel h) s = .next t ∧ latched t .commitCancelled = true ∧ latched t .sceneBusy = true ∧
        SameButNotices (answered h 4 { result := .done }
          { s with engine := { s.engine with state := .steady, operation := .none, scheduled := none } }) t) ∧
    (s.engine.state = .clearing ∨ s.engine.state = .fadeIn ∨
        (s.engine.state = .fadeOut ∧ ∀ mode, s.engine.operation ≠ .commit mode) →
      exec (.cancel h) s = .next (answered h 4 { result := .late } s))

/-- O57. R91, R127, R150: COPY is refused LOCKED while the pending bank is locked; otherwise it copies the
active bank record for record, and the pending bank waits for exactly the recomputes the active one waits for. -/
def Obligations.CopyRequest : Prop :=
  ∀ (h : Header) (s : State), Heard h s →
    (pendingLocked s = true → exec (.copy h) s = .next (answered h 4 { result := .locked } s)) ∧
    (pendingLocked s = false →
      ∃ t, exec (.copy h) s = .next (answered h 4 { result := .done } t) ∧ pendingBank t = activeBank s ∧
        activeBank t = activeBank s ∧ compatible t.bankA t.bankB = true ∧
        t = { s with bankA := t.bankA, bankB := t.bankB, decay := t.decay } ∧
        (∀ e, t.decay.current = some e ↔ s.decay.current = some e ∧ e.bank = s.active) ∧
        (∀ j, (s.active, j) ∈ t.decay.queue ↔ (s.active, j) ∈ s.decay.queue) ∧
        (∀ j, (pendingName s, j) ∈ t.decay.queue ↔
          (s.active, j) ∈ s.decay.queue ∨ ∃ e, s.decay.current = some e ∧ e.bank = s.active ∧ e.line = j))

/-- O58. R159 to R162, R164, R165: the requests of the Scene Store, by the tests of their rules in order. -/
def Obligations.StoreRequests : Prop :=
  ∀ (h : Header) (s : State), Heard h s →
    let begun (code : StoreState) (sector : Option (Fin 16)) (count : Nat) (st : Store) (t : State) : Prop :=
      SameButNotices (answered h 4 { result := .done }
        { s with
          store := { st with state := code, sector := sector, count := count }, marks := { s.marks with store := true }
          decay := t.decay }) t
    (∀ code, 16 ≤ code →
      (∀ c ∈ [Instr.erase h code, .write h code, .recallSector h code, .protect h code, .unprotect h code],
        exec c s = .next (answered h 4 { result := .range } s)) ∧
      (code ≠ 255 → exec (.setStart h code) s = .next (answered h 4 { result := .range } s))) ∧
    (∀ n : Fin 16,
      (s.store.state ≠ .idle → ∀ c ∈ [Instr.erase h n, .write h n, .protect h n, .unprotect h n, .setStart h n],
        exec c s = .next (answered h 4 { result := .busy } s)) ∧
      (s.store.state ≠ .idle → exec (.setStart h 255) s = .next (answered h 4 { result := .busy } s)) ∧
      (s.store.state = .idle →
        (s.store.record.guarded[n] = true → ∀ c ∈ [Instr.erase h n, .write h n],
          exec c s = .next (answered h 4 { result := .guarded } s)) ∧
        (s.store.record.guarded[n] = false →
          (∃ t, exec (.erase h n) s = .next t ∧ latched t .storeBusy = true ∧ t.decay = s.decay ∧
            begun .erasing (some n) 300 s.store t) ∧
          (s.store.sectors[n] ≠ .empty → exec (.write h n) s = .next (answered h 4 { result := .refused } s)) ∧
          (s.store.sectors[n] = .empty → (engineReason s = true ∨ recomputing s (pendingName s) = true) →
            exec (.write h n) s = .next (answered h 4 { result := .busy } s)) ∧
          (s.store.sectors[n] = .empty → engineReason s = false → recomputing s (pendingName s) = false →
            ∃ t, exec (.write h n) s = .next t ∧ latched t .storeBusy = true ∧ t.decay = s.decay ∧
              begun .writing (some n) 90 { s.store with image := encodeBank (pendingBank s) } t)) ∧
        (∀ (c : Instr) (r : StartRecord) (sector : Option (Fin 16)),
          (c = .protect h n ∧ sector = some n ∧ r = { s.store.record with guarded := setAt s.store.record.guarded n true } ∨
            c = .unprotect h n ∧ sector = some n ∧
              r = { s.store.record with guarded := setAt s.store.record.guarded n false } ∨
            c = .setStart h n ∧ sector = some n ∧ r = { s.store.record with start := some n } ∨
            c = .setStart h 255 ∧ sector = none ∧ r = { s.store.record with start := none }) →
          (r = s.store.record → exec c s = .next (answered h 4 { result := .nothing } s)) ∧
          (r ≠ s.store.record → ∃ t, exec c s = .next t ∧ latched t .storeBusy = true ∧ t.decay = s.decay ∧
            begun .updating sector 375 { s.store with newRecord := some r } t))) ∧
      ((s.store.state = .idle ∨ s.store.state = .erasing ∧ s.store.sector ≠ some n) →
        (s.store.sectors[n] ≠ .valid → exec (.recallSector h n) s = .next (answered h 4 { result := .refused } s)) ∧
        (s.store.sectors[n] = .valid → engineReason s = true →
          exec (.recallSector h n) s = .next (answered h 4 { result := .locked } s)) ∧
        (s.store.sectors[n] = .valid → engineReason s = false →
          (∃ t, exec (.recallSector h n) s = .next t ∧
            t.decay.queue = s.decay.queue.filter (fun e => e.1 == s.active) ∧
            (∀ e, t.decay.current = some e ↔ s.decay.current = some e ∧ e.bank = s.active) ∧
            begun (if s.store.state = .erasing then .eraseSuspended else .recalling) (some n) 12
              { s.store with
                image := readImage s.store.memory[n], startUp := false
                suspended := if s.store.state = .erasing then s.store.sector.map (fun k => (k, s.store.count)) else none } t))) ∧
      (¬ (s.store.state = .idle ∨ s.store.state = .erasing ∧ s.store.sector ≠ some n) →
        exec (.recallSector h n) s = .next (answered h 4 { result := .busy } s)))

/-! ### Requests: guards, measurement, flags, warm reset -/

/-- O59. R107, R108, R170, R171, R173, R175, R176, R178, R193: the requests that act on guards, generator,
capture and flags. The fall of GUARD_ACTIVE at a reset of every guard is taken into the notice queue where it is
enabled (R194, R195). -/
def Obligations.GuardMeasurementAndFlagRequests : Prop :=
  ∀ (h : Header) (s : State), Heard h s →
    (∀ m : Fin 32, ∃ t, exec (.guardReset h m.val) s = .next t ∧
      SameButNotices (answered h 4 { result := .done } { s with
        outputs := setAt s.outputs m { s.outputs[m] with guard := ⟨.watch, 0, 0, 0, 0⟩ } }) t) ∧
    (∃ t, exec (.guardReset h 255) s = .next t ∧
      (let falls : Prop := ∃ m : Fin 32, s.outputs[m].guard.state ≠ .watch
       (∀ k, latched t k = true ↔ latched s k = true ∨ k = .guardActive ∧ falls) ∧
       (falls → s.node.enables.fall[2] = true →
         TakesOccurrence s.ring.frameNumber .guardActive .fall s.notices.queue t.notices.queue) ∧
       (¬ (falls ∧ s.node.enables.fall[2] = true) → t.notices.queue = s.notices.queue)) ∧
      SameButNotices (answered h 4 { result := .done } { s with
        outputs := changeAll s.outputs (fun _ u => { u with guard := ⟨.watch, 0, 0, 0, 0⟩ }) }) t) ∧
    (∀ code, 32 ≤ code → code ≠ 255 → exec (.guardReset h code) s = .next (answered h 4 { result := .range } s)) ∧
    (∀ kind target level length, 2 ≤ kind ∨ 32 ≤ target →
      exec (.fire h kind target level length) s = .next (answered h 4 { result := .range } s)) ∧
    (∀ kind number trigger length frame,
      3 < kind ∨ kind = 0 ∧ 24 ≤ number ∨ kind = 1 ∧ 16 ≤ number ∨ kind = 2 ∧ 32 ≤ number ∨ kind = 3 ∧ 128 ≤ number ∨
        2 < trigger →
      exec (.arm h kind number trigger length frame) s = .next (answered h 4 { result := .range } s)) ∧
    (∀ (kind : BurstKind) (m : Fin 32) (level length : Nat),
      let fire := Instr.fire h (match kind with | .impulse => 0 | .noise => 1) m.val level length
      (s.engine.state = .fadeOut ∨ s.engine.state = .clearing ∨ s.engine.state = .fadeIn →
        exec fire s = .next (answered h 4 { result := .busy } s)) ∧
      (s.engine.state = .steady ∨ s.engine.state = .scheduled →
        ((activeBank s).outputs[m].slot = none → exec fire s = .next (answered h 4 { result := .range } s)) ∧
        (((activeBank s).outputs[m].slot).isSome = true → s.marks.early = false →
          exec fire s = .next (answered h 4
            { result := if level ≤ 1536 ∧ 1 ≤ length ∧ length ≤ 65535 then .done else .clamped }
            (let waits := s.capture.state = .armed ∧ s.capture.trigger = .withGenerator ∧ s.capture.triggered = false
            { s with
              gen := ⟨true, kind, m, min level 1536, max 1 (min length 65535), true,
                if s.gen.running then s.gen.noise else 1, none⟩
              capture := if waits then { s.capture with triggered := true } else s.capture
              marks := if waits then { s.marks with capture := true } else s.marks }))))) ∧
    (s.gen.running = true ∨ s.gen.next.isSome = true →
      exec (.stopGenerator h) s = .next (answered h 4 { result := .done }
        { s with gen := { s.gen with running := false, remaining := 0, first := false, next := none } })) ∧
    (s.gen.running = false → s.gen.next = none →
      exec (.stopGenerator h) s = .next (answered h 4 { result := .nothing } s)) ∧
    (∀ (kind number trigger length frame : Nat) (p : CapturePoint) (g : CaptureTrigger),
      point? kind number = some p → trigger? trigger = some g →
      let arm := Instr.arm h kind number trigger length frame
      (s.capture.state = .armed ∨ s.capture.state = .running → exec arm s = .next (answered h 4 { result := .busy } s)) ∧
      (s.capture.state = .idle ∨ s.capture.state = .done →
        (g = .atFrame → ¬ (1 ≤ distance frame s.ring.frameNumber ∧ distance frame s.ring.frameNumber ≤ 65535) →
          exec arm s = .next (answered h 4 { result := .range } s)) ∧
        ((g = .atFrame → 1 ≤ distance frame s.ring.frameNumber ∧ distance frame s.ring.frameNumber ≤ 65535) →
          exec arm s = .next (answered h 4 { result := if 1 ≤ length ∧ length ≤ 4096 then .done else .clamped }
            { s with
              capture := ⟨.armed, p, g, if g = .atFrame then some frame else none, max 1 (min length 4096), 0,
                s.capture.words, false⟩
              marks := { s.marks with capture := true } })))) ∧
    (s.capture.state = .running → s.marks.early = false →
      ∃ t, exec (.stopCapture h) s = .next t ∧ latched t .captureDone = true ∧
        SameButNotices (answered h 4 { result := .done } { s with capture := { s.capture with state := .done } }) t) ∧
    (s.capture.state = .armed →
      exec (.stopCapture h) s = .next (answered h 4 { result := .done } { s with capture :=
        { s.capture with state := .idle, captured := 0, scheduled := none, triggered := false } })) ∧
    (s.capture.state = .idle ∨ s.capture.state = .done →
      exec (.stopCapture h) s = .next (answered h 4 { result := .nothing } s)) ∧
    (∀ mask, ((∀ k : Fin 15, mask.testBit k.val = false) →
        exec (.clearFlags h mask) s = .next (answered h 4 { result := .nothing } s)) ∧
      ((∃ k : Fin 15, mask.testBit k.val = true) →
        exec (.clearFlags h mask) s = .next (answered h 4 { result := .done } { s with notices :=
          { s.notices with flags := Vector.ofFn (fun k => s.notices.flags[k] && !mask.testBit k.val) } })))

/-- O60. R37, R52, R81, R93, R120, R152, R153, R167, R169, R174, R182, R190, R191, R197: the warm reset. Its own
occurrences alone stand latched and, where enabled, queued. Inside a frame period the edge of INPUT_MISSING waits for its
end, the model's choice (log 2). -/
def Obligations.WarmReset : Prop :=
  ∀ (h : Header) (s : State), Heard h s →
    ∃ t, exec (.resetNode h) s = .next t ∧
      t.ring = { s.ring with badFrames := 0, flaggedFrames := 0, lockLosses := 0 } ∧
      (∀ i : Fin 24, t.inputs[i] = ⟨if ((activeBank s).inputs[i].slot).isSome then .absent else .unbound, 0, 0,
        s.inputs[i].current, 0⟩) ∧
      t.outputs = Vector.replicate 32 ⟨1536, 0, 0, ⟨.watch, 0, 0, 0, 0⟩, 0⟩ ∧ t.backoff = ⟨0, 0, 0⟩ ∧
      t.gen = ⟨false, .impulse, 0, 1536, 0, false, 1, none⟩ ∧
      t.capture = { s.capture with state := .idle, captured := 0, scheduled := none, triggered := false } ∧
      t.pointer = ⟨.pending, .bank .inputs, 0, 1⟩ ∧ t.badCells = 0 ∧
      t.engine = { s.engine with
        state := if s.engine.state = .clearing then .clearing else .fadeOut
        operation := .reset, scheduled := none
        owed := match s.engine.state, s.engine.operation with
          | .fadeIn, .commit _ => true
          | _, _ => s.engine.owed } ∧
      t.reverb = (if s.engine.state = .clearing then
        { s.reverb with lineClips := Vector.replicate 16 0, clearing := true, clearCount := 0 }
        else { s.reverb with lineClips := Vector.replicate 16 0 }) ∧
      (latched t .commitCancelled = true ↔ s.engine.state = .scheduled ∨
          ((s.engine.state = .fadeOut ∨ s.engine.state = .clearing) ∧ ∃ mode, s.engine.operation = .commit mode)) ∧
      (∀ k ∈ [NoticeKind.guardActive, .backoffActive, .sceneBusy],
        latched t k = true ↔ levelHigh s k ≠ levelHigh t k) ∧
      (s.marks.missing = none → (latched t .inputMissing = true ↔ levelHigh s .inputMissing ≠ levelHigh t .inputMissing)) ∧
      (s.marks.missing.isSome = true → latched t .inputMissing = false) ∧
      (∀ k : NoticeKind, k ∉ [.inputMissing, .guardActive, .backoffActive, .sceneBusy, .commitCancelled] →
        latched t k = false) ∧
      (∀ e ∈ t.notices.queue, latched t e.kind = true ∧ e.count = 1 ∧ e.first = s.ring.frameNumber) ∧
      (∀ k : NoticeKind, latched t k = true →
        ((∃ e ∈ t.notices.queue, e.kind = k) ↔ enabled s.node.enables k
          (if k = .commitCancelled then .none else if levelHigh t k = true then .rise else .fall) = true)) ∧
      t.decay = s.decay ∧ t.store = s.store ∧ t.bankA = s.bankA ∧ t.bankB = s.bankB ∧ t.active = s.active ∧
      t.node = s.node ∧ (h.target = s.node.number → answerCode t = some .done)
end

