-- ==== Sys2Proof/Laws/State.lean ====
section
/-! SUPPORT. One lemma per field for each of the plain updates: a field an update does not name is as before. -/

namespace Sys2Proof.Machine

/-! ### setRing -/

@[simp] theorem setRing_powered (r : Ring) (s : State) : (setRing r s).powered = s.powered := rfl

@[simp] theorem setRing_resetPin (r : Ring) (s : State) : (setRing r s).resetPin = s.resetPin := rfl

@[simp] theorem setRing_started (r : Ring) (s : State) : (setRing r s).started = s.started := rfl

@[simp] theorem setRing_node (r : Ring) (s : State) : (setRing r s).node = s.node := rfl

@[simp] theorem setRing_inputs (r : Ring) (s : State) : (setRing r s).inputs = s.inputs := rfl

@[simp] theorem setRing_reverb (r : Ring) (s : State) : (setRing r s).reverb = s.reverb := rfl

@[simp] theorem setRing_decay (r : Ring) (s : State) : (setRing r s).decay = s.decay := rfl

@[simp] theorem setRing_outputs (r : Ring) (s : State) : (setRing r s).outputs = s.outputs := rfl

@[simp] theorem setRing_backoff (r : Ring) (s : State) : (setRing r s).backoff = s.backoff := rfl

@[simp] theorem setRing_active (r : Ring) (s : State) : (setRing r s).active = s.active := rfl

@[simp] theorem setRing_bankA (r : Ring) (s : State) : (setRing r s).bankA = s.bankA := rfl

@[simp] theorem setRing_bankB (r : Ring) (s : State) : (setRing r s).bankB = s.bankB := rfl

@[simp] theorem setRing_engine (r : Ring) (s : State) : (setRing r s).engine = s.engine := rfl

@[simp] theorem setRing_store (r : Ring) (s : State) : (setRing r s).store = s.store := rfl

@[simp] theorem setRing_gen (r : Ring) (s : State) : (setRing r s).gen = s.gen := rfl

@[simp] theorem setRing_capture (r : Ring) (s : State) : (setRing r s).capture = s.capture := rfl

@[simp] theorem setRing_pointer (r : Ring) (s : State) : (setRing r s).pointer = s.pointer := rfl

@[simp] theorem setRing_badCells (r : Ring) (s : State) : (setRing r s).badCells = s.badCells := rfl

@[simp] theorem setRing_notices (r : Ring) (s : State) : (setRing r s).notices = s.notices := rfl

@[simp] theorem setRing_out (r : Ring) (s : State) : (setRing r s).out = s.out := rfl

@[simp] theorem setRing_marks (r : Ring) (s : State) : (setRing r s).marks = s.marks := rfl

@[simp] theorem setRing_draws (r : Ring) (s : State) : (setRing r s).draws = s.draws := rfl

@[simp] theorem setRing_pending (r : Ring) (s : State) : (setRing r s).pending = s.pending := rfl

/-! ### setEngine -/

@[simp] theorem setEngine_powered (e : Engine) (s : State) : (setEngine e s).powered = s.powered := rfl

@[simp] theorem setEngine_resetPin (e : Engine) (s : State) : (setEngine e s).resetPin = s.resetPin := rfl

@[simp] theorem setEngine_started (e : Engine) (s : State) : (setEngine e s).started = s.started := rfl

@[simp] theorem setEngine_ring (e : Engine) (s : State) : (setEngine e s).ring = s.ring := rfl

@[simp] theorem setEngine_node (e : Engine) (s : State) : (setEngine e s).node = s.node := rfl

@[simp] theorem setEngine_inputs (e : Engine) (s : State) : (setEngine e s).inputs = s.inputs := rfl

@[simp] theorem setEngine_reverb (e : Engine) (s : State) : (setEngine e s).reverb = s.reverb := rfl

@[simp] theorem setEngine_decay (e : Engine) (s : State) : (setEngine e s).decay = s.decay := rfl

@[simp] theorem setEngine_outputs (e : Engine) (s : State) : (setEngine e s).outputs = s.outputs := rfl

@[simp] theorem setEngine_backoff (e : Engine) (s : State) : (setEngine e s).backoff = s.backoff := rfl

@[simp] theorem setEngine_active (e : Engine) (s : State) : (setEngine e s).active = s.active := rfl

@[simp] theorem setEngine_bankA (e : Engine) (s : State) : (setEngine e s).bankA = s.bankA := rfl

@[simp] theorem setEngine_bankB (e : Engine) (s : State) : (setEngine e s).bankB = s.bankB := rfl

@[simp] theorem setEngine_store (e : Engine) (s : State) : (setEngine e s).store = s.store := rfl

@[simp] theorem setEngine_gen (e : Engine) (s : State) : (setEngine e s).gen = s.gen := rfl

@[simp] theorem setEngine_capture (e : Engine) (s : State) : (setEngine e s).capture = s.capture := rfl

@[simp] theorem setEngine_pointer (e : Engine) (s : State) : (setEngine e s).pointer = s.pointer := rfl

@[simp] theorem setEngine_badCells (e : Engine) (s : State) : (setEngine e s).badCells = s.badCells := rfl

@[simp] theorem setEngine_notices (e : Engine) (s : State) : (setEngine e s).notices = s.notices := rfl

@[simp] theorem setEngine_out (e : Engine) (s : State) : (setEngine e s).out = s.out := rfl

@[simp] theorem setEngine_marks (e : Engine) (s : State) : (setEngine e s).marks = s.marks := rfl

@[simp] theorem setEngine_draws (e : Engine) (s : State) : (setEngine e s).draws = s.draws := rfl

@[simp] theorem setEngine_pending (e : Engine) (s : State) : (setEngine e s).pending = s.pending := rfl

/-! ### setGuard -/

@[simp] theorem setGuard_powered (m : Fin 32) (g : Guard) (s : State) : (setGuard m g s).powered = s.powered := rfl

@[simp] theorem setGuard_resetPin (m : Fin 32) (g : Guard) (s : State) : (setGuard m g s).resetPin = s.resetPin := rfl

@[simp] theorem setGuard_started (m : Fin 32) (g : Guard) (s : State) : (setGuard m g s).started = s.started := rfl

@[simp] theorem setGuard_ring (m : Fin 32) (g : Guard) (s : State) : (setGuard m g s).ring = s.ring := rfl

@[simp] theorem setGuard_node (m : Fin 32) (g : Guard) (s : State) : (setGuard m g s).node = s.node := rfl

@[simp] theorem setGuard_inputs (m : Fin 32) (g : Guard) (s : State) : (setGuard m g s).inputs = s.inputs := rfl

@[simp] theorem setGuard_reverb (m : Fin 32) (g : Guard) (s : State) : (setGuard m g s).reverb = s.reverb := rfl

@[simp] theorem setGuard_decay (m : Fin 32) (g : Guard) (s : State) : (setGuard m g s).decay = s.decay := rfl

@[simp] theorem setGuard_backoff (m : Fin 32) (g : Guard) (s : State) : (setGuard m g s).backoff = s.backoff := rfl

@[simp] theorem setGuard_active (m : Fin 32) (g : Guard) (s : State) : (setGuard m g s).active = s.active := rfl

@[simp] theorem setGuard_bankA (m : Fin 32) (g : Guard) (s : State) : (setGuard m g s).bankA = s.bankA := rfl

@[simp] theorem setGuard_bankB (m : Fin 32) (g : Guard) (s : State) : (setGuard m g s).bankB = s.bankB := rfl

@[simp] theorem setGuard_engine (m : Fin 32) (g : Guard) (s : State) : (setGuard m g s).engine = s.engine := rfl

@[simp] theorem setGuard_store (m : Fin 32) (g : Guard) (s : State) : (setGuard m g s).store = s.store := rfl

@[simp] theorem setGuard_gen (m : Fin 32) (g : Guard) (s : State) : (setGuard m g s).gen = s.gen := rfl

@[simp] theorem setGuard_capture (m : Fin 32) (g : Guard) (s : State) : (setGuard m g s).capture = s.capture := rfl

@[simp] theorem setGuard_pointer (m : Fin 32) (g : Guard) (s : State) : (setGuard m g s).pointer = s.pointer := rfl

@[simp] theorem setGuard_badCells (m : Fin 32) (g : Guard) (s : State) : (setGuard m g s).badCells = s.badCells := rfl

@[simp] theorem setGuard_notices (m : Fin 32) (g : Guard) (s : State) : (setGuard m g s).notices = s.notices := rfl

@[simp] theorem setGuard_out (m : Fin 32) (g : Guard) (s : State) : (setGuard m g s).out = s.out := rfl

@[simp] theorem setGuard_marks (m : Fin 32) (g : Guard) (s : State) : (setGuard m g s).marks = s.marks := rfl

@[simp] theorem setGuard_draws (m : Fin 32) (g : Guard) (s : State) : (setGuard m g s).draws = s.draws := rfl

@[simp] theorem setGuard_pending (m : Fin 32) (g : Guard) (s : State) : (setGuard m g s).pending = s.pending := rfl

/-! ### send -/

@[simp] theorem send_powered (f : Frame) (s : State) : (send f s).powered = s.powered := rfl

@[simp] theorem send_resetPin (f : Frame) (s : State) : (send f s).resetPin = s.resetPin := rfl

@[simp] theorem send_started (f : Frame) (s : State) : (send f s).started = s.started := rfl

@[simp] theorem send_ring (f : Frame) (s : State) : (send f s).ring = s.ring := rfl

@[simp] theorem send_node (f : Frame) (s : State) : (send f s).node = s.node := rfl

@[simp] theorem send_inputs (f : Frame) (s : State) : (send f s).inputs = s.inputs := rfl

@[simp] theorem send_reverb (f : Frame) (s : State) : (send f s).reverb = s.reverb := rfl

@[simp] theorem send_decay (f : Frame) (s : State) : (send f s).decay = s.decay := rfl

@[simp] theorem send_outputs (f : Frame) (s : State) : (send f s).outputs = s.outputs := rfl

@[simp] theorem send_backoff (f : Frame) (s : State) : (send f s).backoff = s.backoff := rfl

@[simp] theorem send_active (f : Frame) (s : State) : (send f s).active = s.active := rfl

@[simp] theorem send_bankA (f : Frame) (s : State) : (send f s).bankA = s.bankA := rfl

@[simp] theorem send_bankB (f : Frame) (s : State) : (send f s).bankB = s.bankB := rfl

@[simp] theorem send_engine (f : Frame) (s : State) : (send f s).engine = s.engine := rfl

@[simp] theorem send_store (f : Frame) (s : State) : (send f s).store = s.store := rfl

@[simp] theorem send_gen (f : Frame) (s : State) : (send f s).gen = s.gen := rfl

@[simp] theorem send_capture (f : Frame) (s : State) : (send f s).capture = s.capture := rfl

@[simp] theorem send_pointer (f : Frame) (s : State) : (send f s).pointer = s.pointer := rfl

@[simp] theorem send_badCells (f : Frame) (s : State) : (send f s).badCells = s.badCells := rfl

@[simp] theorem send_notices (f : Frame) (s : State) : (send f s).notices = s.notices := rfl

@[simp] theorem send_marks (f : Frame) (s : State) : (send f s).marks = s.marks := rfl

@[simp] theorem send_draws (f : Frame) (s : State) : (send f s).draws = s.draws := rfl

@[simp] theorem send_pending (f : Frame) (s : State) : (send f s).pending = s.pending := rfl

/-! ### swapBanks -/

@[simp] theorem swapBanks_powered (s : State) : (swapBanks s).powered = s.powered := rfl

@[simp] theorem swapBanks_resetPin (s : State) : (swapBanks s).resetPin = s.resetPin := rfl

@[simp] theorem swapBanks_started (s : State) : (swapBanks s).started = s.started := rfl

@[simp] theorem swapBanks_ring (s : State) : (swapBanks s).ring = s.ring := rfl

@[simp] theorem swapBanks_node (s : State) : (swapBanks s).node = s.node := rfl

@[simp] theorem swapBanks_inputs (s : State) : (swapBanks s).inputs = s.inputs := rfl

@[simp] theorem swapBanks_reverb (s : State) : (swapBanks s).reverb = s.reverb := rfl

@[simp] theorem swapBanks_decay (s : State) : (swapBanks s).decay = s.decay := rfl

@[simp] theorem swapBanks_outputs (s : State) : (swapBanks s).outputs = s.outputs := rfl

@[simp] theorem swapBanks_backoff (s : State) : (swapBanks s).backoff = s.backoff := rfl

@[simp] theorem swapBanks_bankA (s : State) : (swapBanks s).bankA = s.bankA := rfl

@[simp] theorem swapBanks_bankB (s : State) : (swapBanks s).bankB = s.bankB := rfl

@[simp] theorem swapBanks_engine (s : State) : (swapBanks s).engine = s.engine := rfl

@[simp] theorem swapBanks_store (s : State) : (swapBanks s).store = s.store := rfl

@[simp] theorem swapBanks_gen (s : State) : (swapBanks s).gen = s.gen := rfl

@[simp] theorem swapBanks_capture (s : State) : (swapBanks s).capture = s.capture := rfl

@[simp] theorem swapBanks_pointer (s : State) : (swapBanks s).pointer = s.pointer := rfl

@[simp] theorem swapBanks_badCells (s : State) : (swapBanks s).badCells = s.badCells := rfl

@[simp] theorem swapBanks_notices (s : State) : (swapBanks s).notices = s.notices := rfl

@[simp] theorem swapBanks_out (s : State) : (swapBanks s).out = s.out := rfl

@[simp] theorem swapBanks_marks (s : State) : (swapBanks s).marks = s.marks := rfl

@[simp] theorem swapBanks_draws (s : State) : (swapBanks s).draws = s.draws := rfl

@[simp] theorem swapBanks_pending (s : State) : (swapBanks s).pending = s.pending := rfl

/-! ### countDown -/

@[simp] theorem countDown_powered (s : State) : (countDown s).powered = s.powered := rfl

@[simp] theorem countDown_resetPin (s : State) : (countDown s).resetPin = s.resetPin := rfl

@[simp] theorem countDown_started (s : State) : (countDown s).started = s.started := rfl

@[simp] theorem countDown_ring (s : State) : (countDown s).ring = s.ring := rfl

@[simp] theorem countDown_node (s : State) : (countDown s).node = s.node := rfl

@[simp] theorem countDown_inputs (s : State) : (countDown s).inputs = s.inputs := rfl

@[simp] theorem countDown_reverb (s : State) : (countDown s).reverb = s.reverb := rfl

@[simp] theorem countDown_decay (s : State) : (countDown s).decay = s.decay := rfl

@[simp] theorem countDown_outputs (s : State) : (countDown s).outputs = s.outputs := rfl

@[simp] theorem countDown_backoff (s : State) : (countDown s).backoff = s.backoff := rfl

@[simp] theorem countDown_active (s : State) : (countDown s).active = s.active := rfl

@[simp] theorem countDown_bankA (s : State) : (countDown s).bankA = s.bankA := rfl

@[simp] theorem countDown_bankB (s : State) : (countDown s).bankB = s.bankB := rfl

@[simp] theorem countDown_engine (s : State) : (countDown s).engine = s.engine := rfl

@[simp] theorem countDown_gen (s : State) : (countDown s).gen = s.gen := rfl

@[simp] theorem countDown_capture (s : State) : (countDown s).capture = s.capture := rfl

@[simp] theorem countDown_pointer (s : State) : (countDown s).pointer = s.pointer := rfl

@[simp] theorem countDown_badCells (s : State) : (countDown s).badCells = s.badCells := rfl

@[simp] theorem countDown_notices (s : State) : (countDown s).notices = s.notices := rfl

@[simp] theorem countDown_out (s : State) : (countDown s).out = s.out := rfl

@[simp] theorem countDown_marks (s : State) : (countDown s).marks = s.marks := rfl

@[simp] theorem countDown_draws (s : State) : (countDown s).draws = s.draws := rfl

@[simp] theorem countDown_pending (s : State) : (countDown s).pending = s.pending := rfl

/-! ### appendRecompute -/

@[simp] theorem appendRecompute_powered (s : State) (n : BankName) (j : Fin 16) : (appendRecompute s n j).powered = s.powered := rfl

@[simp] theorem appendRecompute_resetPin (s : State) (n : BankName) (j : Fin 16) : (appendRecompute s n j).resetPin = s.resetPin := rfl

@[simp] theorem appendRecompute_started (s : State) (n : BankName) (j : Fin 16) : (appendRecompute s n j).started = s.started := rfl

@[simp] theorem appendRecompute_ring (s : State) (n : BankName) (j : Fin 16) : (appendRecompute s n j).ring = s.ring := rfl

@[simp] theorem appendRecompute_node (s : State) (n : BankName) (j : Fin 16) : (appendRecompute s n j).node = s.node := rfl

@[simp] theorem appendRecompute_inputs (s : State) (n : BankName) (j : Fin 16) : (appendRecompute s n j).inputs = s.inputs := rfl

@[simp] theorem appendRecompute_reverb (s : State) (n : BankName) (j : Fin 16) : (appendRecompute s n j).reverb = s.reverb := rfl

@[simp] theorem appendRecompute_outputs (s : State) (n : BankName) (j : Fin 16) : (appendRecompute s n j).outputs = s.outputs := rfl

@[simp] theorem appendRecompute_backoff (s : State) (n : BankName) (j : Fin 16) : (appendRecompute s n j).backoff = s.backoff := rfl

@[simp] theorem appendRecompute_active (s : State) (n : BankName) (j : Fin 16) : (appendRecompute s n j).active = s.active := rfl

@[simp] theorem appendRecompute_bankA (s : State) (n : BankName) (j : Fin 16) : (appendRecompute s n j).bankA = s.bankA := rfl

@[simp] theorem appendRecompute_bankB (s : State) (n : BankName) (j : Fin 16) : (appendRecompute s n j).bankB = s.bankB := rfl

@[simp] theorem appendRecompute_engine (s : State) (n : BankName) (j : Fin 16) : (appendRecompute s n j).engine = s.engine := rfl

@[simp] theorem appendRecompute_store (s : State) (n : BankName) (j : Fin 16) : (appendRecompute s n j).store = s.store := rfl

@[simp] theorem appendRecompute_gen (s : State) (n : BankName) (j : Fin 16) : (appendRecompute s n j).gen = s.gen := rfl

@[simp] theorem appendRecompute_capture (s : State) (n : BankName) (j : Fin 16) : (appendRecompute s n j).capture = s.capture := rfl

@[simp] theorem appendRecompute_pointer (s : State) (n : BankName) (j : Fin 16) : (appendRecompute s n j).pointer = s.pointer := rfl

@[simp] theorem appendRecompute_badCells (s : State) (n : BankName) (j : Fin 16) : (appendRecompute s n j).badCells = s.badCells := rfl

@[simp] theorem appendRecompute_notices (s : State) (n : BankName) (j : Fin 16) : (appendRecompute s n j).notices = s.notices := rfl

@[simp] theorem appendRecompute_out (s : State) (n : BankName) (j : Fin 16) : (appendRecompute s n j).out = s.out := rfl

@[simp] theorem appendRecompute_marks (s : State) (n : BankName) (j : Fin 16) : (appendRecompute s n j).marks = s.marks := rfl

@[simp] theorem appendRecompute_draws (s : State) (n : BankName) (j : Fin 16) : (appendRecompute s n j).draws = s.draws := rfl

@[simp] theorem appendRecompute_pending (s : State) (n : BankName) (j : Fin 16) : (appendRecompute s n j).pending = s.pending := rfl

/-! ### report -/

@[simp] theorem report_powered (k : NoticeKind) (e : Edge) (s : State) : (report k e s).powered = s.powered := rfl

@[simp] theorem report_resetPin (k : NoticeKind) (e : Edge) (s : State) : (report k e s).resetPin = s.resetPin := rfl

@[simp] theorem report_started (k : NoticeKind) (e : Edge) (s : State) : (report k e s).started = s.started := rfl

@[simp] theorem report_ring (k : NoticeKind) (e : Edge) (s : State) : (report k e s).ring = s.ring := rfl

@[simp] theorem report_node (k : NoticeKind) (e : Edge) (s : State) : (report k e s).node = s.node := rfl

@[simp] theorem report_inputs (k : NoticeKind) (e : Edge) (s : State) : (report k e s).inputs = s.inputs := rfl

@[simp] theorem report_reverb (k : NoticeKind) (e : Edge) (s : State) : (report k e s).reverb = s.reverb := rfl

@[simp] theorem report_decay (k : NoticeKind) (e : Edge) (s : State) : (report k e s).decay = s.decay := rfl

@[simp] theorem report_outputs (k : NoticeKind) (e : Edge) (s : State) : (report k e s).outputs = s.outputs := rfl

@[simp] theorem report_backoff (k : NoticeKind) (e : Edge) (s : State) : (report k e s).backoff = s.backoff := rfl

@[simp] theorem report_active (k : NoticeKind) (e : Edge) (s : State) : (report k e s).active = s.active := rfl

@[simp] theorem report_bankA (k : NoticeKind) (e : Edge) (s : State) : (report k e s).bankA = s.bankA := rfl

@[simp] theorem report_bankB (k : NoticeKind) (e : Edge) (s : State) : (report k e s).bankB = s.bankB := rfl

@[simp] theorem report_engine (k : NoticeKind) (e : Edge) (s : State) : (report k e s).engine = s.engine := rfl

@[simp] theorem report_store (k : NoticeKind) (e : Edge) (s : State) : (report k e s).store = s.store := rfl

@[simp] theorem report_gen (k : NoticeKind) (e : Edge) (s : State) : (report k e s).gen = s.gen := rfl

@[simp] theorem report_capture (k : NoticeKind) (e : Edge) (s : State) : (report k e s).capture = s.capture := rfl

@[simp] theorem report_pointer (k : NoticeKind) (e : Edge) (s : State) : (report k e s).pointer = s.pointer := rfl

@[simp] theorem report_badCells (k : NoticeKind) (e : Edge) (s : State) : (report k e s).badCells = s.badCells := rfl

@[simp] theorem report_out (k : NoticeKind) (e : Edge) (s : State) : (report k e s).out = s.out := rfl

@[simp] theorem report_marks (k : NoticeKind) (e : Edge) (s : State) : (report k e s).marks = s.marks := rfl

@[simp] theorem report_draws (k : NoticeKind) (e : Edge) (s : State) : (report k e s).draws = s.draws := rfl

@[simp] theorem report_pending (k : NoticeKind) (e : Edge) (s : State) : (report k e s).pending = s.pending := rfl

/-! ### pulse -/

@[simp] theorem pulse_powered (k : NoticeKind) (s : State) : (pulse k s).powered = s.powered := rfl

@[simp] theorem pulse_resetPin (k : NoticeKind) (s : State) : (pulse k s).resetPin = s.resetPin := rfl

@[simp] theorem pulse_started (k : NoticeKind) (s : State) : (pulse k s).started = s.started := rfl

@[simp] theorem pulse_ring (k : NoticeKind) (s : State) : (pulse k s).ring = s.ring := rfl

@[simp] theorem pulse_node (k : NoticeKind) (s : State) : (pulse k s).node = s.node := rfl

@[simp] theorem pulse_inputs (k : NoticeKind) (s : State) : (pulse k s).inputs = s.inputs := rfl

@[simp] theorem pulse_reverb (k : NoticeKind) (s : State) : (pulse k s).reverb = s.reverb := rfl

@[simp] theorem pulse_decay (k : NoticeKind) (s : State) : (pulse k s).decay = s.decay := rfl

@[simp] theorem pulse_outputs (k : NoticeKind) (s : State) : (pulse k s).outputs = s.outputs := rfl

@[simp] theorem pulse_backoff (k : NoticeKind) (s : State) : (pulse k s).backoff = s.backoff := rfl

@[simp] theorem pulse_active (k : NoticeKind) (s : State) : (pulse k s).active = s.active := rfl

@[simp] theorem pulse_bankA (k : NoticeKind) (s : State) : (pulse k s).bankA = s.bankA := rfl

@[simp] theorem pulse_bankB (k : NoticeKind) (s : State) : (pulse k s).bankB = s.bankB := rfl

@[simp] theorem pulse_engine (k : NoticeKind) (s : State) : (pulse k s).engine = s.engine := rfl

@[simp] theorem pulse_store (k : NoticeKind) (s : State) : (pulse k s).store = s.store := rfl

@[simp] theorem pulse_gen (k : NoticeKind) (s : State) : (pulse k s).gen = s.gen := rfl

@[simp] theorem pulse_capture (k : NoticeKind) (s : State) : (pulse k s).capture = s.capture := rfl

@[simp] theorem pulse_pointer (k : NoticeKind) (s : State) : (pulse k s).pointer = s.pointer := rfl

@[simp] theorem pulse_badCells (k : NoticeKind) (s : State) : (pulse k s).badCells = s.badCells := rfl

@[simp] theorem pulse_out (k : NoticeKind) (s : State) : (pulse k s).out = s.out := rfl

@[simp] theorem pulse_marks (k : NoticeKind) (s : State) : (pulse k s).marks = s.marks := rfl

@[simp] theorem pulse_draws (k : NoticeKind) (s : State) : (pulse k s).draws = s.draws := rfl

@[simp] theorem pulse_pending (k : NoticeKind) (s : State) : (pulse k s).pending = s.pending := rfl

/-! ### pulseIf -/

@[simp] theorem pulseIf_powered (b : Bool) (k : NoticeKind) (s : State) : (pulseIf b k s).powered = s.powered := by cases b <;> rfl

@[simp] theorem pulseIf_resetPin (b : Bool) (k : NoticeKind) (s : State) : (pulseIf b k s).resetPin = s.resetPin := by cases b <;> rfl

@[simp] theorem pulseIf_started (b : Bool) (k : NoticeKind) (s : State) : (pulseIf b k s).started = s.started := by cases b <;> rfl

@[simp] theorem pulseIf_ring (b : Bool) (k : NoticeKind) (s : State) : (pulseIf b k s).ring = s.ring := by cases b <;> rfl

@[simp] theorem pulseIf_node (b : Bool) (k : NoticeKind) (s : State) : (pulseIf b k s).node = s.node := by cases b <;> rfl

@[simp] theorem pulseIf_inputs (b : Bool) (k : NoticeKind) (s : State) : (pulseIf b k s).inputs = s.inputs := by cases b <;> rfl

@[simp] theorem pulseIf_reverb (b : Bool) (k : NoticeKind) (s : State) : (pulseIf b k s).reverb = s.reverb := by cases b <;> rfl

@[simp] theorem pulseIf_decay (b : Bool) (k : NoticeKind) (s : State) : (pulseIf b k s).decay = s.decay := by cases b <;> rfl

@[simp] theorem pulseIf_outputs (b : Bool) (k : NoticeKind) (s : State) : (pulseIf b k s).outputs = s.outputs := by cases b <;> rfl

@[simp] theorem pulseIf_backoff (b : Bool) (k : NoticeKind) (s : State) : (pulseIf b k s).backoff = s.backoff := by cases b <;> rfl

@[simp] theorem pulseIf_active (b : Bool) (k : NoticeKind) (s : State) : (pulseIf b k s).active = s.active := by cases b <;> rfl

@[simp] theorem pulseIf_bankA (b : Bool) (k : NoticeKind) (s : State) : (pulseIf b k s).bankA = s.bankA := by cases b <;> rfl

@[simp] theorem pulseIf_bankB (b : Bool) (k : NoticeKind) (s : State) : (pulseIf b k s).bankB = s.bankB := by cases b <;> rfl

@[simp] theorem pulseIf_engine (b : Bool) (k : NoticeKind) (s : State) : (pulseIf b k s).engine = s.engine := by cases b <;> rfl

@[simp] theorem pulseIf_store (b : Bool) (k : NoticeKind) (s : State) : (pulseIf b k s).store = s.store := by cases b <;> rfl

@[simp] theorem pulseIf_gen (b : Bool) (k : NoticeKind) (s : State) : (pulseIf b k s).gen = s.gen := by cases b <;> rfl

@[simp] theorem pulseIf_capture (b : Bool) (k : NoticeKind) (s : State) : (pulseIf b k s).capture = s.capture := by cases b <;> rfl

@[simp] theorem pulseIf_pointer (b : Bool) (k : NoticeKind) (s : State) : (pulseIf b k s).pointer = s.pointer := by cases b <;> rfl

@[simp] theorem pulseIf_badCells (b : Bool) (k : NoticeKind) (s : State) : (pulseIf b k s).badCells = s.badCells := by cases b <;> rfl

@[simp] theorem pulseIf_out (b : Bool) (k : NoticeKind) (s : State) : (pulseIf b k s).out = s.out := by cases b <;> rfl

@[simp] theorem pulseIf_marks (b : Bool) (k : NoticeKind) (s : State) : (pulseIf b k s).marks = s.marks := by cases b <;> rfl

@[simp] theorem pulseIf_draws (b : Bool) (k : NoticeKind) (s : State) : (pulseIf b k s).draws = s.draws := by cases b <;> rfl

@[simp] theorem pulseIf_pending (b : Bool) (k : NoticeKind) (s : State) : (pulseIf b k s).pending = s.pending := by cases b <;> rfl

/-! ### setBank -/

@[simp] theorem setBank_powered (s : State) (n : BankName) (b : Bank) : (setBank s n b).powered = s.powered := by cases n <;> rfl

@[simp] theorem setBank_resetPin (s : State) (n : BankName) (b : Bank) : (setBank s n b).resetPin = s.resetPin := by cases n <;> rfl

@[simp] theorem setBank_started (s : State) (n : BankName) (b : Bank) : (setBank s n b).started = s.started := by cases n <;> rfl

@[simp] theorem setBank_ring (s : State) (n : BankName) (b : Bank) : (setBank s n b).ring = s.ring := by cases n <;> rfl

@[simp] theorem setBank_node (s : State) (n : BankName) (b : Bank) : (setBank s n b).node = s.node := by cases n <;> rfl

@[simp] theorem setBank_inputs (s : State) (n : BankName) (b : Bank) : (setBank s n b).inputs = s.inputs := by cases n <;> rfl

@[simp] theorem setBank_reverb (s : State) (n : BankName) (b : Bank) : (setBank s n b).reverb = s.reverb := by cases n <;> rfl

@[simp] theorem setBank_decay (s : State) (n : BankName) (b : Bank) : (setBank s n b).decay = s.decay := by cases n <;> rfl

@[simp] theorem setBank_outputs (s : State) (n : BankName) (b : Bank) : (setBank s n b).outputs = s.outputs := by cases n <;> rfl

@[simp] theorem setBank_backoff (s : State) (n : BankName) (b : Bank) : (setBank s n b).backoff = s.backoff := by cases n <;> rfl

@[simp] theorem setBank_active (s : State) (n : BankName) (b : Bank) : (setBank s n b).active = s.active := by cases n <;> rfl

@[simp] theorem setBank_engine (s : State) (n : BankName) (b : Bank) : (setBank s n b).engine = s.engine := by cases n <;> rfl

@[simp] theorem setBank_store (s : State) (n : BankName) (b : Bank) : (setBank s n b).store = s.store := by cases n <;> rfl

@[simp] theorem setBank_gen (s : State) (n : BankName) (b : Bank) : (setBank s n b).gen = s.gen := by cases n <;> rfl

@[simp] theorem setBank_capture (s : State) (n : BankName) (b : Bank) : (setBank s n b).capture = s.capture := by cases n <;> rfl

@[simp] theorem setBank_pointer (s : State) (n : BankName) (b : Bank) : (setBank s n b).pointer = s.pointer := by cases n <;> rfl

@[simp] theorem setBank_badCells (s : State) (n : BankName) (b : Bank) : (setBank s n b).badCells = s.badCells := by cases n <;> rfl

@[simp] theorem setBank_notices (s : State) (n : BankName) (b : Bank) : (setBank s n b).notices = s.notices := by cases n <;> rfl

@[simp] theorem setBank_out (s : State) (n : BankName) (b : Bank) : (setBank s n b).out = s.out := by cases n <;> rfl

@[simp] theorem setBank_marks (s : State) (n : BankName) (b : Bank) : (setBank s n b).marks = s.marks := by cases n <;> rfl

@[simp] theorem setBank_draws (s : State) (n : BankName) (b : Bank) : (setBank s n b).draws = s.draws := by cases n <;> rfl

@[simp] theorem setBank_pending (s : State) (n : BankName) (b : Bank) : (setBank s n b).pending = s.pending := by cases n <;> rfl

/-! ### clearNotices -/

@[simp] theorem clearNotices_powered (s : State) : (clearNotices s).powered = s.powered := rfl

@[simp] theorem clearNotices_resetPin (s : State) : (clearNotices s).resetPin = s.resetPin := rfl

@[simp] theorem clearNotices_started (s : State) : (clearNotices s).started = s.started := rfl

@[simp] theorem clearNotices_ring (s : State) : (clearNotices s).ring = s.ring := rfl

@[simp] theorem clearNotices_node (s : State) : (clearNotices s).node = s.node := rfl

@[simp] theorem clearNotices_inputs (s : State) : (clearNotices s).inputs = s.inputs := rfl

@[simp] theorem clearNotices_reverb (s : State) : (clearNotices s).reverb = s.reverb := rfl

@[simp] theorem clearNotices_decay (s : State) : (clearNotices s).decay = s.decay := rfl

@[simp] theorem clearNotices_outputs (s : State) : (clearNotices s).outputs = s.outputs := rfl

@[simp] theorem clearNotices_backoff (s : State) : (clearNotices s).backoff = s.backoff := rfl

@[simp] theorem clearNotices_active (s : State) : (clearNotices s).active = s.active := rfl

@[simp] theorem clearNotices_bankA (s : State) : (clearNotices s).bankA = s.bankA := rfl

@[simp] theorem clearNotices_bankB (s : State) : (clearNotices s).bankB = s.bankB := rfl

@[simp] theorem clearNotices_engine (s : State) : (clearNotices s).engine = s.engine := rfl

@[simp] theorem clearNotices_store (s : State) : (clearNotices s).store = s.store := rfl

@[simp] theorem clearNotices_gen (s : State) : (clearNotices s).gen = s.gen := rfl

@[simp] theorem clearNotices_capture (s : State) : (clearNotices s).capture = s.capture := rfl

@[simp] theorem clearNotices_pointer (s : State) : (clearNotices s).pointer = s.pointer := rfl

@[simp] theorem clearNotices_badCells (s : State) : (clearNotices s).badCells = s.badCells := rfl

@[simp] theorem clearNotices_out (s : State) : (clearNotices s).out = s.out := rfl

@[simp] theorem clearNotices_marks (s : State) : (clearNotices s).marks = s.marks := rfl

@[simp] theorem clearNotices_draws (s : State) : (clearNotices s).draws = s.draws := rfl

@[simp] theorem clearNotices_pending (s : State) : (clearNotices s).pending = s.pending := rfl

/-! ### What the updates write -/

@[simp] theorem setRing_ring (r : Ring) (s : State) : (setRing r s).ring = r := rfl

@[simp] theorem setEngine_engine (e : Engine) (s : State) : (setEngine e s).engine = e := rfl

@[simp] theorem swapBanks_active (s : State) : (swapBanks s).active = s.active.other := rfl

@[simp] theorem other_other (n : BankName) : n.other.other = n := by cases n <;> rfl

theorem other_ne (n : BankName) : n.other ≠ n := by cases n <;> decide

@[simp] theorem bankOf_setBank (s : State) (n : BankName) (b : Bank) : bankOf (setBank s n b) n = b := by
  cases n <;> rfl

@[simp] theorem bankOf_setBank_other (s : State) (n : BankName) (b : Bank) :
    bankOf (setBank s n b) n.other = bankOf s n.other := by
  cases n <;> rfl

/-- A write into the pending bank leaves the active bank. -/
@[simp] theorem activeBank_setBank_pending (s : State) (b : Bank) : activeBank (setBank s (pendingName s) b) = activeBank s := by
  unfold activeBank pendingName
  rw [setBank_active]
  cases s.active <;> rfl

/-- The pending bank after a write into it. -/
@[simp] theorem pendingBank_setBank (s : State) (b : Bank) : pendingBank (setBank s (pendingName s) b) = b := by
  unfold pendingBank pendingName
  rw [setBank_active]
  cases s.active <;> rfl

/-- The swap gives the pending bank the active role. -/
theorem activeBank_swapBanks (s : State) : activeBank (swapBanks s) = pendingBank s := by
  cases h : s.active <;> simp [activeBank, pendingBank, pendingName, swapBanks, bankOf, h, BankName.other]

end Sys2Proof.Machine
end

