-- ==== Sys2Proof/Laws/Reports.lean ====
section
/-! SUPPORT. The Notice Unit: a report changes only flags and queue, edges change only what reports change,
and levels that stand still give no edge (R192, R195). -/

namespace Sys2Proof.Machine

/-- A report writes the Notice Unit alone. -/
theorem report_frame (k : NoticeKind) (e : Edge) (s : State) :
    report k e s = { s with notices := (report k e s).notices } := rfl

/-- A pulse writes the Notice Unit alone. -/
theorem pulse_frame (k : NoticeKind) (s : State) : pulse k s = { s with notices := (pulse k s).notices } := rfl

/-- A conditional pulse writes the Notice Unit alone. -/
theorem pulseIf_frame (b : Bool) (k : NoticeKind) (s : State) :
    pulseIf b k s = { s with notices := (pulseIf b k s).notices } := by cases b <;> rfl

/-- The edge of a level writes the Notice Unit alone. -/
theorem levelEdge_frame (was : Bool) (k : NoticeKind) (s : State) :
    levelEdge was k s = { s with notices := (levelEdge was k s).notices } := by
  unfold levelEdge
  split <;> rfl

/-- The edge of one level between two states writes the Notice Unit alone. -/
theorem edgeOf_frame (old s : State) (k : NoticeKind) :
    edgeOf old s k = { s with notices := (edgeOf old s k).notices } := by
  unfold edgeOf
  split
  · rfl
  · exact levelEdge_frame _ _ _

/-- The edge of INPUT_MISSING of a frame period writes the Notice Unit and its mark alone. -/
theorem missingEdge_frame (s : State) :
    missingEdge s = { s with notices := (missingEdge s).notices, marks := (missingEdge s).marks } := by
  unfold missingEdge
  split
  · rw [levelEdge_frame]
  · rfl

/-- A fold of operations that write the Notice Unit alone writes the Notice Unit alone. -/
theorem foldl_frame {α : Type} (f : State → α → State) (hf : ∀ s a, f s a = { s with notices := (f s a).notices })
    (l : List α) (s : State) : l.foldl f s = { s with notices := (l.foldl f s).notices } := by
  induction l generalizing s with
  | nil => rfl
  | cons a l ih =>
    rw [List.foldl_cons, ih (f s a), hf s a]

/-- The edges write the Notice Unit alone. -/
theorem edges_frame (old new : State) : edges old new = { new with notices := (edges old new).notices } :=
  foldl_frame (edgeOf old) (edgeOf_frame old) levelKinds new

/-- An operation with its edges differs from the operation in the Notice Unit alone. -/
theorem withEdges_frame (f : State → State) (s : State) :
    withEdges f s = { f s with notices := (withEdges f s).notices } := edges_frame s (f s)

@[simp] theorem edges_powered (old new : State) : (edges old new).powered = new.powered := by
  rw [edges_frame]

@[simp] theorem edges_resetPin (old new : State) : (edges old new).resetPin = new.resetPin := by
  rw [edges_frame]

@[simp] theorem edges_started (old new : State) : (edges old new).started = new.started := by
  rw [edges_frame]

@[simp] theorem edges_ring (old new : State) : (edges old new).ring = new.ring := by
  rw [edges_frame]

@[simp] theorem edges_node (old new : State) : (edges old new).node = new.node := by
  rw [edges_frame]

@[simp] theorem edges_inputs (old new : State) : (edges old new).inputs = new.inputs := by
  rw [edges_frame]

@[simp] theorem edges_reverb (old new : State) : (edges old new).reverb = new.reverb := by
  rw [edges_frame]

@[simp] theorem edges_decay (old new : State) : (edges old new).decay = new.decay := by
  rw [edges_frame]

@[simp] theorem edges_outputs (old new : State) : (edges old new).outputs = new.outputs := by
  rw [edges_frame]

@[simp] theorem edges_backoff (old new : State) : (edges old new).backoff = new.backoff := by
  rw [edges_frame]

@[simp] theorem edges_active (old new : State) : (edges old new).active = new.active := by
  rw [edges_frame]

@[simp] theorem edges_bankA (old new : State) : (edges old new).bankA = new.bankA := by
  rw [edges_frame]

@[simp] theorem edges_bankB (old new : State) : (edges old new).bankB = new.bankB := by
  rw [edges_frame]

@[simp] theorem edges_engine (old new : State) : (edges old new).engine = new.engine := by
  rw [edges_frame]

@[simp] theorem edges_store (old new : State) : (edges old new).store = new.store := by
  rw [edges_frame]

@[simp] theorem edges_gen (old new : State) : (edges old new).gen = new.gen := by
  rw [edges_frame]

@[simp] theorem edges_capture (old new : State) : (edges old new).capture = new.capture := by
  rw [edges_frame]

@[simp] theorem edges_pointer (old new : State) : (edges old new).pointer = new.pointer := by
  rw [edges_frame]

@[simp] theorem edges_badCells (old new : State) : (edges old new).badCells = new.badCells := by
  rw [edges_frame]

@[simp] theorem edges_out (old new : State) : (edges old new).out = new.out := by
  rw [edges_frame]

@[simp] theorem edges_marks (old new : State) : (edges old new).marks = new.marks := by
  rw [edges_frame]

@[simp] theorem edges_draws (old new : State) : (edges old new).draws = new.draws := by
  rw [edges_frame]

@[simp] theorem edges_pending (old new : State) : (edges old new).pending = new.pending := by
  rw [edges_frame]

@[simp] theorem withEdges_powered (f : State → State) (s : State) : (withEdges f s).powered = (f s).powered :=
  edges_powered s (f s)

@[simp] theorem withEdges_resetPin (f : State → State) (s : State) : (withEdges f s).resetPin = (f s).resetPin :=
  edges_resetPin s (f s)

@[simp] theorem withEdges_started (f : State → State) (s : State) : (withEdges f s).started = (f s).started :=
  edges_started s (f s)

@[simp] theorem withEdges_ring (f : State → State) (s : State) : (withEdges f s).ring = (f s).ring :=
  edges_ring s (f s)

@[simp] theorem withEdges_node (f : State → State) (s : State) : (withEdges f s).node = (f s).node :=
  edges_node s (f s)

@[simp] theorem withEdges_inputs (f : State → State) (s : State) : (withEdges f s).inputs = (f s).inputs :=
  edges_inputs s (f s)

@[simp] theorem withEdges_reverb (f : State → State) (s : State) : (withEdges f s).reverb = (f s).reverb :=
  edges_reverb s (f s)

@[simp] theorem withEdges_decay (f : State → State) (s : State) : (withEdges f s).decay = (f s).decay :=
  edges_decay s (f s)

@[simp] theorem withEdges_outputs (f : State → State) (s : State) : (withEdges f s).outputs = (f s).outputs :=
  edges_outputs s (f s)

@[simp] theorem withEdges_backoff (f : State → State) (s : State) : (withEdges f s).backoff = (f s).backoff :=
  edges_backoff s (f s)

@[simp] theorem withEdges_active (f : State → State) (s : State) : (withEdges f s).active = (f s).active :=
  edges_active s (f s)

@[simp] theorem withEdges_bankA (f : State → State) (s : State) : (withEdges f s).bankA = (f s).bankA :=
  edges_bankA s (f s)

@[simp] theorem withEdges_bankB (f : State → State) (s : State) : (withEdges f s).bankB = (f s).bankB :=
  edges_bankB s (f s)

@[simp] theorem withEdges_engine (f : State → State) (s : State) : (withEdges f s).engine = (f s).engine :=
  edges_engine s (f s)

@[simp] theorem withEdges_store (f : State → State) (s : State) : (withEdges f s).store = (f s).store :=
  edges_store s (f s)

@[simp] theorem withEdges_gen (f : State → State) (s : State) : (withEdges f s).gen = (f s).gen :=
  edges_gen s (f s)

@[simp] theorem withEdges_capture (f : State → State) (s : State) : (withEdges f s).capture = (f s).capture :=
  edges_capture s (f s)

@[simp] theorem withEdges_pointer (f : State → State) (s : State) : (withEdges f s).pointer = (f s).pointer :=
  edges_pointer s (f s)

@[simp] theorem withEdges_badCells (f : State → State) (s : State) : (withEdges f s).badCells = (f s).badCells :=
  edges_badCells s (f s)

@[simp] theorem withEdges_out (f : State → State) (s : State) : (withEdges f s).out = (f s).out :=
  edges_out s (f s)

@[simp] theorem withEdges_marks (f : State → State) (s : State) : (withEdges f s).marks = (f s).marks :=
  edges_marks s (f s)

@[simp] theorem withEdges_draws (f : State → State) (s : State) : (withEdges f s).draws = (f s).draws :=
  edges_draws s (f s)

@[simp] theorem withEdges_pending (f : State → State) (s : State) : (withEdges f s).pending = (f s).pending :=
  edges_pending s (f s)

/-- A level that stands still gives no edge. -/
theorem edgeOf_same (old s : State) (k : NoticeKind) (h : levelHigh old k = levelHigh s k) : edgeOf old s k = s := by
  unfold edgeOf levelEdge
  rw [h]
  split
  · rfl
  · cases levelHigh s k <;> rfl

/-- Levels that stand still give no edges (R192). -/
theorem edges_same (old new : State) (h : ∀ k, k ∈ levelKinds → levelHigh old k = levelHigh new k) :
    edges old new = new := by
  simp only [edges, levelKinds, List.foldl_cons, List.foldl_nil]
  rw [edgeOf_same old new .ringLocked (h _ (by decide)), edgeOf_same old new .inputMissing (h _ (by decide)),
    edgeOf_same old new .guardActive (h _ (by decide)), edgeOf_same old new .backoffActive (h _ (by decide)),
    edgeOf_same old new .sceneBusy (h _ (by decide)), edgeOf_same old new .storeBusy (h _ (by decide))]

/-- What the six levels are formed from: states that agree in it have the same levels (R53, R113, R114, R133, R159). -/
theorem levelHigh_congr (s t : State) (h1 : s.ring.lock = t.ring.lock)
    (h2 : ∀ i : Fin 24, ((activeBank s).inputs[i].slot.isSome && s.inputs[i].state != .admitted) =
      ((activeBank t).inputs[i].slot.isSome && t.inputs[i].state != .admitted))
    (h3 : ∀ m : Fin 32, (s.outputs[m].guard.state != .watch) = (t.outputs[m].guard.state != .watch))
    (h4 : decide (0 < s.backoff.level) = decide (0 < t.backoff.level))
    (h5 : (s.engine.state != .steady) = (t.engine.state != .steady))
    (h6 : (s.store.state != .idle) = (t.store.state != .idle)) (k : NoticeKind) : levelHigh s k = levelHigh t k := by
  have e2 : inputMissing s = inputMissing t := by
    unfold inputMissing
    exact congrArg _ (funext h2)
  have e3 : guardActive s = guardActive t := by
    unfold guardActive
    exact congrArg _ (funext h3)
  cases k <;> simp only [levelHigh] <;> first | exact e2 | exact e3 | exact h4 | exact h5 | exact h6 | rw [h1]

/-- A state that differs only in fields no level reads has the same levels. -/
theorem edges_none (old new : State) (h1 : old.ring = new.ring) (h2 : old.inputs = new.inputs)
    (h3 : activeBank old = activeBank new) (h4 : old.outputs = new.outputs) (h5 : old.backoff = new.backoff)
    (h6 : old.engine = new.engine) (h7 : old.store.state = new.store.state) : edges old new = new := by
  apply edges_same
  intro k _
  apply levelHigh_congr
  · rw [h1]
  · intro i; rw [h2, h3]
  · intro m; rw [h4]
  · rw [h5]
  · rw [h6]
  · rw [h7]

/-- A report latches its flag and leaves every other (R192). -/
theorem report_flags (k : NoticeKind) (e : Edge) (s : State) (c : Fin 15) :
    (report k e s).notices.flags[c] = if c = k.code then true else s.notices.flags[c] := by
  simp only [report, setAt, Fin.getElem_fin, Vector.getElem_set, Fin.ext_iff]
  split
  · rename_i h
    rw [if_pos h.symm]
  · rename_i h
    rw [if_neg (fun h' => h h'.symm)]

/-- Codes tell kinds apart (R200). -/
theorem code_injective (j k : NoticeKind) (h : j.code = k.code) : j = k := by
  cases j <;> cases k <;> first | rfl | exact absurd h (by decide)

end Sys2Proof.Machine
end

