-- ==== Sys2Proof/Laws/Frames.lean ====
section
/-! SUPPORT. The frame of every operation: one equation each, which says which fields of the state the
operation can change. A proof that a field is as before rewrites with the equation. -/

namespace Sys2Proof.Machine

/-- States with equal fields are equal. -/
theorem State.ext_fields {s t : State} (h1 : s.powered = t.powered) (h2 : s.resetPin = t.resetPin)
    (h3 : s.started = t.started) (h4 : s.ring = t.ring) (h5 : s.node = t.node) (h6 : s.inputs = t.inputs)
    (h7 : s.reverb = t.reverb) (h8 : s.decay = t.decay) (h9 : s.outputs = t.outputs) (h10 : s.backoff = t.backoff)
    (h11 : s.active = t.active) (h12 : s.bankA = t.bankA) (h13 : s.bankB = t.bankB) (h14 : s.engine = t.engine)
    (h15 : s.store = t.store) (h16 : s.gen = t.gen) (h17 : s.capture = t.capture) (h18 : s.pointer = t.pointer)
    (h19 : s.badCells = t.badCells) (h20 : s.notices = t.notices) (h21 : s.out = t.out) (h22 : s.marks = t.marks)
    (h23 : s.draws = t.draws) (h24 : s.pending = t.pending) : s = t := by
  cases s
  cases t
  simp_all

/-- Appends to the recompute queue change the calculator alone. -/
theorem foldl_appendRecompute_frame {n : BankName} (l : List (Fin 16)) (s : State) :
    l.foldl (fun v j => appendRecompute v n j) s =
      { s with decay := (l.foldl (fun v j => appendRecompute v n j) s).decay } := by
  induction l generalizing s with
  | nil => rfl
  | cons a l ih =>
    rw [List.foldl_cons, ih]
    rfl

/-! ### Input Stage and Reverberation Core -/

theorem inputsWork_frame (env : Env) (boundary : Bool) (s : State) :
    inputsWork env boundary s =
      { s with inputs := (inputsWork env boundary s).inputs } := rfl

theorem inputsRamp_frame (s : State) :
    inputsRamp s =
      { s with inputs := (inputsRamp s).inputs } := rfl

theorem inputsLockLoss_frame (s : State) :
    inputsLockLoss s =
      { s with inputs := (inputsLockLoss s).inputs } := rfl

theorem inputsInstall_frame (s : State) :
    inputsInstall s =
      { s with inputs := (inputsInstall s).inputs } := rfl

theorem inputsWarmReset_frame (s : State) :
    inputsWarmReset s =
      { s with inputs := (inputsWarmReset s).inputs } := rfl

theorem reverbCompute_frame (x : Vector Sample 24) (level : Nat) (s : State) :
    reverbCompute x level s =
      { s with reverb := (reverbCompute x level s).reverb, notices := (reverbCompute x level s).notices } := by
  unfold reverbCompute
  dsimp only
  rw [foldl_frame _ (fun u j => pulseIf_frame _ _ u)]

theorem reverbClear_frame (s : State) :
    reverbClear s =
      { s with reverb := (reverbClear s).reverb } := rfl

theorem reverbRamp_frame (s : State) :
    reverbRamp s =
      { s with reverb := (reverbRamp s).reverb } := rfl

theorem reverbInstall_frame (s : State) :
    reverbInstall s =
      { s with reverb := (reverbInstall s).reverb } := rfl

theorem endClearing_frame (s : State) :
    endClearing s =
      { s with reverb := (endClearing s).reverb } := rfl

theorem reverbWarmReset_frame (s : State) :
    reverbWarmReset s =
      { s with reverb := (reverbWarmReset s).reverb } := rfl

theorem reverbWork_frame (x : Vector Sample 24) (level : Nat) (s : State) :
    reverbWork x level s =
      { s with reverb := (reverbWork x level s).reverb, notices := (reverbWork x level s).notices } := by
  unfold reverbWork
  try dsimp only
  all_goals repeat' split
  all_goals first
    | rw [reverbCompute_frame]
    | rfl

theorem startClearing_frame (s : State) :
    startClearing s =
      { s with reverb := (startClearing s).reverb, marks := (startClearing s).marks } := rfl

/-! ### Decay Calculator -/

theorem decayTake_frame (s : State) :
    decayTake s =
      { s with decay := (decayTake s).decay } := by
  unfold decayTake
  try dsimp only
  all_goals ((repeat' split) <;> rfl)

theorem completeEntry_frame (e : DecayEntry) (s : State) :
    completeEntry e s =
      { s with decay := (completeEntry e s).decay, bankA := (completeEntry e s).bankA, bankB := (completeEntry e s).bankB, notices := (completeEntry e s).notices } := by
  unfold completeEntry
  rw [pulseIf_frame]
  cases e.bank <;> rfl

theorem decayCompletion_frame (s : State) :
    decayCompletion s =
      { s with decay := (decayCompletion s).decay, bankA := (decayCompletion s).bankA, bankB := (decayCompletion s).bankB, notices := (decayCompletion s).notices } := by
  unfold decayCompletion
  try dsimp only
  all_goals repeat' split
  all_goals first
    | rw [completeEntry_frame]
    | rfl

theorem decayBoundary_frame (s : State) :
    decayBoundary s =
      { s with decay := (decayBoundary s).decay, bankA := (decayBoundary s).bankA, bankB := (decayBoundary s).bankB, notices := (decayBoundary s).notices } := by
  unfold decayBoundary
  try dsimp only
  all_goals first
    | rw [decayTake_frame, decayCompletion_frame]

/-! ### Output Stage -/

theorem outputsWork_frame (q : Vector Sample 32) (core s : State) :
    outputsWork q core s =
      { s with outputs := (outputsWork q core s).outputs, notices := (outputsWork q core s).notices } := by
  unfold outputsWork
  dsimp only
  rw [foldl_frame _ (fun u j => pulseIf_frame _ _ u)]

theorem handOff_frame (sent : Vector Sample 32) (s : State) :
    handOff sent s =
      { s with ring := (handOff sent s).ring } := rfl

theorem guardLimit_frame (s : State) :
    guardLimit s =
      { s with backoff := (guardLimit s).backoff, notices := (guardLimit s).notices } := rfl

theorem detectAt_frame (p : ProfileRec) (m : Fin 32) (s : State) :
    detectAt p m s =
      { s with outputs := (detectAt p m s).outputs, backoff := (detectAt p m s).backoff, notices := (detectAt p m s).notices } := by
  unfold detectAt
  try dsimp only
  all_goals ((repeat' split) <;> rfl)

theorem evaluateAt_frame (s : State) (m : Fin 32) :
    evaluateAt s m =
      { s with outputs := (evaluateAt s m).outputs, backoff := (evaluateAt s m).backoff, notices := (evaluateAt s m).notices } := by
  unfold evaluateAt
  try dsimp only
  all_goals repeat' split
  all_goals first
    | rw [detectAt_frame]
    | rfl

theorem evaluateGuards_frame (s : State) :
    evaluateGuards s =
      { s with outputs := (evaluateGuards s).outputs, backoff := (evaluateGuards s).backoff, notices := (evaluateGuards s).notices } := by
  unfold evaluateGuards
  generalize entries 32 = l
  induction l generalizing s with
  | nil => rfl
  | cons m l ih => rw [List.foldl_cons, ih (evaluateAt s m), evaluateAt_frame s m]

theorem blockPeaks_frame (s : State) :
    blockPeaks s =
      { s with outputs := (blockPeaks s).outputs } := rfl

theorem resetGuards_frame (s : State) :
    resetGuards s =
      { s with outputs := (resetGuards s).outputs } := rfl

theorem outputsLockLoss_frame (s : State) :
    outputsLockLoss s =
      { s with outputs := (outputsLockLoss s).outputs } := rfl

theorem backoffStep_frame (s : State) :
    backoffStep s =
      { s with backoff := (backoffStep s).backoff } := by
  unfold backoffStep
  try dsimp only
  all_goals ((repeat' split) <;> rfl)

theorem outputsRamp_frame (mute : Bool) (s : State) :
    outputsRamp mute s =
      { s with outputs := (outputsRamp mute s).outputs } := rfl

theorem profileWritten_frame (n : Fin 4) (s : State) :
    profileWritten n s =
      { s with outputs := (profileWritten n s).outputs } := rfl

theorem resetGuard_frame (m : Fin 32) (s : State) :
    resetGuard m s =
      { s with outputs := (resetGuard m s).outputs } := rfl

theorem outputsSwap_frame (s : State) :
    outputsSwap s =
      { s with outputs := (outputsSwap s).outputs, backoff := (outputsSwap s).backoff } := rfl

theorem outputsInstall_frame (s : State) :
    outputsInstall s =
      { s with outputs := (outputsInstall s).outputs, backoff := (outputsInstall s).backoff } := rfl

theorem outputsWarmReset_frame (s : State) :
    outputsWarmReset s =
      { s with outputs := (outputsWarmReset s).outputs, backoff := (outputsWarmReset s).backoff } := rfl

/-! ### Test Generator and Capture Buffer -/

theorem generatorWork_frame (s : State) :
    generatorWork s =
      { s with gen := (generatorWork s).gen } := rfl

theorem stopBurst_frame (s : State) :
    stopBurst s =
      { s with gen := (stopBurst s).gen } := rfl

theorem burstEnd_frame (s : State) :
    burstEnd s =
      { s with gen := (burstEnd s).gen } := by
  unfold burstEnd
  try dsimp only
  all_goals ((repeat' split) <;> rfl)

theorem burstBegin_frame (s : State) :
    burstBegin s =
      { s with gen := (burstBegin s).gen } := by
  unfold burstBegin
  try dsimp only
  all_goals ((repeat' split) <;> rfl)

theorem generatorWarmReset_frame (s : State) :
    generatorWarmReset s =
      { s with gen := (generatorWarmReset s).gen } := rfl

theorem accept_frame (b : Burst) (s : State) :
    accept b s =
      { s with gen := (accept b s).gen, capture := (accept b s).capture, marks := (accept b s).marks } := by
  unfold accept
  try dsimp only
  all_goals ((repeat' split) <;> rfl)

theorem captureBegin_frame (s : State) :
    captureBegin s =
      { s with capture := (captureBegin s).capture } := rfl

theorem captureLockLoss_frame (s : State) :
    captureLockLoss s =
      { s with capture := (captureLockLoss s).capture } := by
  unfold captureLockLoss
  try dsimp only
  all_goals ((repeat' split) <;> rfl)

theorem captureWarmReset_frame (s : State) :
    captureWarmReset s =
      { s with capture := (captureWarmReset s).capture } := rfl

theorem captureStart_frame (slip : Bool) (s : State) :
    captureStart slip s =
      { s with capture := (captureStart slip s).capture } := by
  unfold captureStart
  try dsimp only
  all_goals repeat' split
  all_goals first
    | rw [captureBegin_frame]
    | rfl

theorem captureWork_frame (v : Sample) (s : State) :
    captureWork v s =
      { s with capture := (captureWork v s).capture } := by
  unfold captureWork
  try dsimp only
  all_goals ((repeat' split) <;> rfl)

theorem captureDone_frame (s : State) :
    captureDone s =
      { s with capture := (captureDone s).capture, notices := (captureDone s).notices } := rfl

theorem captureEnd_frame (s : State) :
    captureEnd s =
      { s with capture := (captureEnd s).capture, notices := (captureEnd s).notices } := by
  unfold captureEnd
  try dsimp only
  all_goals repeat' split
  all_goals first
    | rw [captureDone_frame]
    | rfl

/-! ### Scene Engine -/

theorem steadyEngine_frame (s : State) :
    steadyEngine s =
      { s with engine := (steadyEngine s).engine } := rfl

theorem smoothSwap_frame (s : State) :
    smoothSwap s =
      { s with outputs := (smoothSwap s).outputs, backoff := (smoothSwap s).backoff, active := (smoothSwap s).active, engine := (smoothSwap s).engine, notices := (smoothSwap s).notices } := by
  unfold smoothSwap
  rw [pulse_frame, steadyEngine_frame, outputsSwap_frame]
  rfl

theorem cutFadeOut_frame (s : State) :
    cutFadeOut s =
      { s with engine := (cutFadeOut s).engine, gen := (cutFadeOut s).gen } := rfl

theorem execute_frame (mode : CommitMode) (s : State) :
    execute mode s =
      { s with outputs := (execute mode s).outputs, backoff := (execute mode s).backoff, active := (execute mode s).active, engine := (execute mode s).engine, gen := (execute mode s).gen, notices := (execute mode s).notices } := by
  unfold execute
  try dsimp only
  all_goals repeat' split
  all_goals first
    | rw [smoothSwap_frame]
    | rw [cutFadeOut_frame]

theorem executeScheduled_frame (s : State) :
    executeScheduled s =
      { s with outputs := (executeScheduled s).outputs, backoff := (executeScheduled s).backoff, active := (executeScheduled s).active, engine := (executeScheduled s).engine, gen := (executeScheduled s).gen, notices := (executeScheduled s).notices } := by
  unfold executeScheduled
  try dsimp only
  all_goals repeat' split
  all_goals first
    | rw [execute_frame]
    | rfl

theorem commitStart_frame (slip : Bool) (s : State) :
    commitStart slip s =
      { s with outputs := (commitStart slip s).outputs, backoff := (commitStart slip s).backoff, active := (commitStart slip s).active, engine := (commitStart slip s).engine, gen := (commitStart slip s).gen, notices := (commitStart slip s).notices } := by
  unfold commitStart
  try dsimp only
  all_goals repeat' split
  all_goals first
    | rw [executeScheduled_frame]
    | rfl

theorem beginCommit_frame (mode : CommitMode) (s : State) :
    beginCommit mode s =
      { s with engine := (beginCommit mode s).engine } := rfl

theorem startUpCommit_frame (s : State) :
    startUpCommit s =
      { s with outputs := (startUpCommit s).outputs, backoff := (startUpCommit s).backoff, active := (startUpCommit s).active, engine := (startUpCommit s).engine, gen := (startUpCommit s).gen, notices := (startUpCommit s).notices } := by
  unfold startUpCommit
  try dsimp only
  all_goals repeat' split
  all_goals first
    | rw [execute_frame, beginCommit_frame]
    | rfl

theorem cancelCommit_frame (s : State) :
    cancelCommit s =
      { s with engine := (cancelCommit s).engine, notices := (cancelCommit s).notices } := rfl

theorem engineLockLoss_frame (s : State) :
    engineLockLoss s =
      { s with engine := (engineLockLoss s).engine, notices := (engineLockLoss s).notices } := by
  unfold engineLockLoss
  try dsimp only
  all_goals repeat' split
  all_goals first
    | rw [cancelCommit_frame]
    | rfl

theorem copyBank_frame (s : State) :
    copyBank s =
      { s with decay := (copyBank s).decay, bankA := (copyBank s).bankA, bankB := (copyBank s).bankB } := by
  unfold copyBank
  dsimp only
  rw [foldl_appendRecompute_frame]
  cases pendingName s <;> rfl

theorem clearingStart_frame (s : State) :
    clearingStart s =
      { s with reverb := (clearingStart s).reverb, engine := (clearingStart s).engine, marks := (clearingStart s).marks } := rfl

theorem fadeInEnd_frame (s : State) :
    fadeInEnd s =
      { s with engine := (fadeInEnd s).engine, notices := (fadeInEnd s).notices } := by
  unfold fadeInEnd
  rw [pulseIf_frame]
  rfl

theorem engineBoundary_frame (mute : Bool) (s : State) :
    engineBoundary mute s =
      { s with reverb := (engineBoundary mute s).reverb, engine := (engineBoundary mute s).engine, notices := (engineBoundary mute s).notices, marks := (engineBoundary mute s).marks } := by
  unfold engineBoundary
  try dsimp only
  all_goals repeat' split
  all_goals first
    | rw [clearingStart_frame]
    | rw [fadeInEnd_frame]
    | rfl

theorem install_frame (s : State) :
    install s =
      { s with inputs := (install s).inputs, reverb := (install s).reverb, outputs := (install s).outputs, backoff := (install s).backoff, active := (install s).active, engine := (install s).engine } := by
  unfold install
  dsimp only
  rw [outputsInstall_frame, reverbInstall_frame, inputsInstall_frame]
  cases s.engine.operation <;> rfl

theorem clearingComplete_frame (s : State) :
    clearingComplete s =
      { s with inputs := (clearingComplete s).inputs, reverb := (clearingComplete s).reverb, outputs := (clearingComplete s).outputs, backoff := (clearingComplete s).backoff, active := (clearingComplete s).active, engine := (clearingComplete s).engine } := by
  unfold clearingComplete
  try dsimp only
  all_goals repeat' split
  all_goals first
    | rw [install_frame, endClearing_frame]
    | rfl

theorem quietWork_frame (q : Vector Sample 32) (s : State) :
    quietWork q s =
      { s with engine := (quietWork q s).engine } := rfl

theorem resetCommit_frame (s : State) :
    resetCommit s =
      { s with engine := (resetCommit s).engine, notices := (resetCommit s).notices } := by
  unfold resetCommit
  try dsimp only
  all_goals ((repeat' split) <;> rfl)

theorem selfCut_frame (s : State) :
    selfCut s =
      { s with reverb := (selfCut s).reverb, engine := (selfCut s).engine, marks := (selfCut s).marks } := by
  unfold selfCut
  try dsimp only
  all_goals ((repeat' split) <;> rfl)

theorem engineWarmReset_frame (s : State) :
    engineWarmReset s =
      { s with reverb := (engineWarmReset s).reverb, engine := (engineWarmReset s).engine, notices := (engineWarmReset s).notices, marks := (engineWarmReset s).marks } := by
  unfold engineWarmReset
  try dsimp only
  all_goals first
    | rw [selfCut_frame, resetCommit_frame]

/-! ### Scene Store -/

theorem storeCutShort_frame (s : State) :
    storeCutShort s =
      { s with store := (storeCutShort s).store, draws := (storeCutShort s).draws } := rfl

theorem beginOperation_frame (state : StoreState) (sector : Option (Fin 16)) (count : Nat) (s : State) :
    beginOperation state sector count s =
      { s with store := (beginOperation state sector count s).store, marks := (beginOperation state sector count s).marks } := rfl

theorem beginRecall_frame (n : Fin 16) (s : State) :
    beginRecall n s =
      { s with decay := (beginRecall n s).decay, store := (beginRecall n s).store, marks := (beginRecall n s).marks } := by
  unfold beginRecall
  try dsimp only
  all_goals ((repeat' split) <;> rfl)

theorem storeIdle_frame (s : State) :
    storeIdle s =
      { s with store := (storeIdle s).store } := rfl

theorem eraseEnd_frame (ok : Bool) (n : Fin 16) (s : State) :
    eraseEnd ok n s =
      { s with store := (eraseEnd ok n s).store, notices := (eraseEnd ok n s).notices } := by
  unfold eraseEnd
  try dsimp only
  all_goals ((repeat' split) <;> rfl)

theorem writeEnd_frame (ok : Bool) (n : Fin 16) (s : State) :
    writeEnd ok n s =
      { s with store := (writeEnd ok n s).store, notices := (writeEnd ok n s).notices } := by
  unfold writeEnd
  try dsimp only
  all_goals ((repeat' split) <;> rfl)

theorem rewriteEnd_frame (ok : Bool) (r : StartRecord) (s : State) :
    rewriteEnd ok r s =
      { s with store := (rewriteEnd ok r s).store, notices := (rewriteEnd ok r s).notices } := by
  unfold rewriteEnd
  try dsimp only
  all_goals ((repeat' split) <;> rfl)

theorem replacePending_frame (n : Fin 16) (s : State) :
    replacePending n s =
      { s with decay := (replacePending n s).decay, bankA := (replacePending n s).bankA, bankB := (replacePending n s).bankB } := by
  unfold replacePending
  rw [foldl_appendRecompute_frame]
  cases pendingName s <;> rfl

theorem recallReleased_frame (s : State) :
    recallReleased s =
      { s with store := (recallReleased s).store } := by
  unfold recallReleased
  try dsimp only
  all_goals ((repeat' split) <;> rfl)

theorem recallEnd_frame (n : Fin 16) (s : State) :
    recallEnd n s =
      { s with decay := (recallEnd n s).decay, outputs := (recallEnd n s).outputs, backoff := (recallEnd n s).backoff, active := (recallEnd n s).active, bankA := (recallEnd n s).bankA, bankB := (recallEnd n s).bankB, engine := (recallEnd n s).engine, store := (recallEnd n s).store, gen := (recallEnd n s).gen, notices := (recallEnd n s).notices } := by
  unfold recallEnd
  try dsimp only
  all_goals repeat' split
  all_goals first
    | rw [startUpCommit_frame, recallReleased_frame, pulse_frame, replacePending_frame]
    | rw [recallReleased_frame, pulse_frame, replacePending_frame]

theorem operationEnd_frame (s : State) :
    operationEnd s =
      { s with decay := (operationEnd s).decay, outputs := (operationEnd s).outputs, backoff := (operationEnd s).backoff, active := (operationEnd s).active, bankA := (operationEnd s).bankA, bankB := (operationEnd s).bankB, engine := (operationEnd s).engine, store := (operationEnd s).store, gen := (operationEnd s).gen, notices := (operationEnd s).notices } := by
  unfold operationEnd
  try dsimp only
  all_goals repeat' split
  all_goals first
    | rw [eraseEnd_frame]
    | rw [writeEnd_frame]
    | rw [recallEnd_frame]
    | rw [rewriteEnd_frame]
    | rfl

theorem storeBoundary_frame (s : State) :
    storeBoundary s =
      { s with decay := (storeBoundary s).decay, outputs := (storeBoundary s).outputs, backoff := (storeBoundary s).backoff, active := (storeBoundary s).active, bankA := (storeBoundary s).bankA, bankB := (storeBoundary s).bankB, engine := (storeBoundary s).engine, store := (storeBoundary s).store, gen := (storeBoundary s).gen, notices := (storeBoundary s).notices } := by
  unfold storeBoundary
  try dsimp only
  all_goals repeat' split
  all_goals first
    | rw [operationEnd_frame, show countDown s = { s with store := (countDown s).store } from rfl]
    | rfl

theorem releaseHeldRecall_frame (s : State) :
    releaseHeldRecall s =
      { s with decay := (releaseHeldRecall s).decay, outputs := (releaseHeldRecall s).outputs, backoff := (releaseHeldRecall s).backoff, active := (releaseHeldRecall s).active, bankA := (releaseHeldRecall s).bankA, bankB := (releaseHeldRecall s).bankB, engine := (releaseHeldRecall s).engine, store := (releaseHeldRecall s).store, gen := (releaseHeldRecall s).gen, notices := (releaseHeldRecall s).notices, marks := (releaseHeldRecall s).marks } := by
  unfold releaseHeldRecall
  try dsimp only
  all_goals repeat' split
  all_goals first
    | rw [operationEnd_frame]
    | rfl

/-! ### Management Handler and Ring Interface -/

theorem advance_frame (s : State) :
    advance s =
      { s with pointer := (advance s).pointer } := rfl

theorem badCell_frame (s : State) :
    (badCell s).1 =
      { s with badCells := (badCell s).1.badCells, notices := (badCell s).1.notices } := rfl

theorem warmReset_frame (s : State) :
    warmReset s =
      { s with ring := (warmReset s).ring, inputs := (warmReset s).inputs, reverb := (warmReset s).reverb, outputs := (warmReset s).outputs, backoff := (warmReset s).backoff, engine := (warmReset s).engine, gen := (warmReset s).gen, capture := (warmReset s).capture, pointer := (warmReset s).pointer, badCells := (warmReset s).badCells, notices := (warmReset s).notices, marks := (warmReset s).marks } := by
  apply State.ext_fields
  all_goals first
    | with_reducible rfl
    | (unfold warmReset
       try dsimp only
       rw [engineWarmReset_frame]
       dsimp only
       rw [captureWarmReset_frame]
       dsimp only
       rw [generatorWarmReset_frame]
       dsimp only
       rw [outputsWarmReset_frame]
       dsimp only
       rw [reverbWarmReset_frame]
       dsimp only
       rw [inputsWarmReset_frame]
       rfl)

theorem present_frame (c : FrameClass) (s : State) :
    present c s =
      { s with ring := (present c s).ring, out := (present c s).out } := rfl

theorem lockAt_frame (n : Nat) (s : State) :
    lockAt n s =
      { s with ring := (lockAt n s).ring } := rfl

theorem lockLost_frame (s : State) :
    lockLost s =
      { s with ring := (lockLost s).ring, inputs := (lockLost s).inputs, outputs := (lockLost s).outputs, engine := (lockLost s).engine, gen := (lockLost s).gen, capture := (lockLost s).capture, notices := (lockLost s).notices } := by
  unfold lockLost
  rw [captureLockLoss_frame, engineLockLoss_frame]
  rfl

theorem lockLoss_frame (s : State) :
    lockLoss s =
      { s with ring := (lockLoss s).ring, inputs := (lockLoss s).inputs, outputs := (lockLoss s).outputs, engine := (lockLoss s).engine, gen := (lockLoss s).gen, capture := (lockLoss s).capture, notices := (lockLoss s).notices } := by
  unfold lockLoss
  rw [withEdges_frame, lockLost_frame]

theorem signalLost_frame (s : State) :
    signalLost s =
      { s with ring := (signalLost s).ring, inputs := (signalLost s).inputs, outputs := (signalLost s).outputs, engine := (signalLost s).engine, gen := (signalLost s).gen, capture := (signalLost s).capture, notices := (signalLost s).notices } := by
  unfold signalLost
  try dsimp only
  all_goals repeat' split
  all_goals first
    | (rw [lockLoss_frame]; done)
    | (rw [lockLoss_frame]; rfl)
    | rfl

/-! ### The tasks of a frame period -/

theorem beginPeriod_frame (s : State) :
    beginPeriod s =
      { s with started := (beginPeriod s).started, marks := (beginPeriod s).marks, draws := (beginPeriod s).draws } := rfl

theorem clearingOff_frame (s : State) :
    clearingOff s =
      { s with inputs := (clearingOff s).inputs, reverb := (clearingOff s).reverb, outputs := (clearingOff s).outputs, backoff := (clearingOff s).backoff, active := (clearingOff s).active, engine := (clearingOff s).engine } := by
  unfold clearingOff
  split
  · rw [clearingComplete_frame]
  · rfl

theorem clearingEnd_frame (s : State) :
    clearingEnd s =
      { s with inputs := (clearingEnd s).inputs, reverb := (clearingEnd s).reverb, decay := (clearingEnd s).decay, outputs := (clearingEnd s).outputs, backoff := (clearingEnd s).backoff, active := (clearingEnd s).active, bankA := (clearingEnd s).bankA, bankB := (clearingEnd s).bankB, engine := (clearingEnd s).engine, store := (clearingEnd s).store, gen := (clearingEnd s).gen, notices := (clearingEnd s).notices, marks := (clearingEnd s).marks } := by
  apply State.ext_fields
  all_goals first
    | with_reducible rfl
    | (unfold clearingEnd
       rw [releaseHeldRecall_frame]
       dsimp only
       rw [clearingOff_frame])

theorem samplingState_frame (s : State) :
    samplingState s =
      { s with inputs := (samplingState s).inputs, reverb := (samplingState s).reverb, decay := (samplingState s).decay, outputs := (samplingState s).outputs, backoff := (samplingState s).backoff, active := (samplingState s).active, bankA := (samplingState s).bankA, bankB := (samplingState s).bankB, engine := (samplingState s).engine, store := (samplingState s).store, gen := (samplingState s).gen, notices := (samplingState s).notices, marks := (samplingState s).marks } := by
  unfold samplingState
  split
  · rw [clearingEnd_frame, reverbClear_frame]
  · rfl

theorem inputsAndCore_frame (env : Env) (boundary : Bool) (s : State) :
    inputsAndCore env boundary s =
      { s with inputs := (inputsAndCore env boundary s).inputs, reverb := (inputsAndCore env boundary s).reverb, decay := (inputsAndCore env boundary s).decay, outputs := (inputsAndCore env boundary s).outputs, backoff := (inputsAndCore env boundary s).backoff, active := (inputsAndCore env boundary s).active, bankA := (inputsAndCore env boundary s).bankA, bankB := (inputsAndCore env boundary s).bankB, engine := (inputsAndCore env boundary s).engine, store := (inputsAndCore env boundary s).store, gen := (inputsAndCore env boundary s).gen, notices := (inputsAndCore env boundary s).notices, marks := (inputsAndCore env boundary s).marks } := by
  unfold inputsAndCore
  split
  · rw [inputsWork_frame, samplingState_frame]
  · rw [reverbWork_frame, inputsWork_frame]

theorem sampleWork_frame (env : Env) (boundary : Bool) (s : State) :
    sampleWork env boundary s =
      { s with ring := (sampleWork env boundary s).ring, inputs := (sampleWork env boundary s).inputs, reverb := (sampleWork env boundary s).reverb, decay := (sampleWork env boundary s).decay, outputs := (sampleWork env boundary s).outputs, backoff := (sampleWork env boundary s).backoff, active := (sampleWork env boundary s).active, bankA := (sampleWork env boundary s).bankA, bankB := (sampleWork env boundary s).bankB, engine := (sampleWork env boundary s).engine, store := (sampleWork env boundary s).store, gen := (sampleWork env boundary s).gen, notices := (sampleWork env boundary s).notices, capture := (sampleWork env boundary s).capture, marks := (sampleWork env boundary s).marks } := by
  apply State.ext_fields
  all_goals first
    | with_reducible rfl
    | (unfold sampleWork
       try dsimp only
       rw [quietWork_frame]
       dsimp only
       rw [captureWork_frame]
       dsimp only
       rw [handOff_frame]
       dsimp only
       rw [outputsWork_frame]
       dsimp only
       rw [generatorWork_frame]
       dsimp only
       rw [inputsAndCore_frame])

theorem outputsBoundary_frame (mute : Bool) (s : State) :
    outputsBoundary mute s =
      { s with reverb := (outputsBoundary mute s).reverb, outputs := (outputsBoundary mute s).outputs, backoff := (outputsBoundary mute s).backoff, engine := (outputsBoundary mute s).engine, notices := (outputsBoundary mute s).notices, marks := (outputsBoundary mute s).marks } := by
  apply State.ext_fields
  all_goals first
    | with_reducible rfl
    | (unfold outputsBoundary
       try dsimp only
       rw [withEdges_frame]
       dsimp only
       rw [engineBoundary_frame]
       dsimp only
       rw [outputsRamp_frame]
       dsimp only
       rw [withEdges_frame]
       dsimp only
       rw [evaluateGuards_frame]
       dsimp only
       rw [withEdges_frame]
       dsimp only
       rw [backoffStep_frame]
       dsimp only
       rw [blockPeaks_frame])

end Sys2Proof.Machine
end

