-- ==== Sys2Proof/Laws/Memory.lean ====
section
/-! SUPPORT. The sparse memories: reads after writes, the canonical form, and that every operation keeps it. -/

namespace Sys2Proof.Machine

variable {α : Type} {d : α}

/-- Every listed address of a canonical memory lies above a bound. -/
def Cells.above (m : Cells α) (a : Nat) : Prop := ∀ c ∈ m, a < c.1

/-- Below every listed address the memory reads as unlisted. -/
theorem read_above (m : Cells α) (a : Nat) (h : Cells.above m a) : Cells.read d m a = d := by
  induction m with
  | nil => rfl
  | cons c m ih =>
    obtain ⟨b, v⟩ := c
    have hb := h (b, v) (List.mem_cons_self ..)
    simp only [Cells.read]
    rw [if_neg (by simp at hb; omega)]
    exact ih (fun c hc => h c (List.mem_cons_of_mem _ hc))

variable [DecidableEq α]

theorem wf_nil : Cells.wf d ([] : Cells α) = true := rfl

/-- The canonical form, one entry at a time. -/
theorem wf_cons (c : Nat × α) (m : Cells α) :
    Cells.wf d (c :: m) = true ↔ c.2 ≠ d ∧ Cells.above m c.1 ∧ Cells.wf d m = true := by
  induction m generalizing c with
  | nil => obtain ⟨a, v⟩ := c; simp [Cells.wf, Cells.above]
  | cons e m ih =>
    obtain ⟨a, v⟩ := c
    obtain ⟨b, w⟩ := e
    rw [show Cells.wf d ((a, v) :: (b, w) :: m) = (v != d && decide (a < b) && Cells.wf d ((b, w) :: m)) from rfl]
    simp only [Bool.and_eq_true, bne_iff_ne, decide_eq_true_eq]
    constructor
    · rintro ⟨⟨h1, h2⟩, h3⟩
      refine ⟨h1, ?_, h3⟩
      intro c hc
      rcases List.mem_cons.1 hc with rfl | hc
      · exact h2
      · exact Nat.lt_trans h2 (((ih (b, w)).1 h3).2.1 c hc)
    · rintro ⟨h1, h2, h3⟩
      exact ⟨⟨h1, h2 (b, w) (List.mem_cons_self ..)⟩, h3⟩

/-- A read after a write: the written word at its address, every other address as before. -/
theorem read_write (m : Cells α) (hm : Cells.wf d m = true) (a : Nat) (x : α) (b : Nat) :
    Cells.read d (Cells.write d m a x) b = if b = a then x else Cells.read d m b := by
  induction m with
  | nil => by_cases hx : x = d <;> simp [Cells.write, Cells.read, hx]
  | cons c m ih =>
    obtain ⟨e, v⟩ := c
    obtain ⟨_, hab, hw⟩ := (wf_cons _ _).1 hm
    simp only [Cells.write]
    by_cases h1 : a < e
    · rw [if_pos h1]
      by_cases hx : x = d
      · rw [if_pos hx]
        by_cases hb : b = a
        · subst hb
          rw [if_pos rfl, hx]
          apply read_above
          intro c hc
          rcases List.mem_cons.1 hc with rfl | hc
          · exact h1
          · exact Nat.lt_trans h1 (hab c hc)
        · rw [if_neg hb]
      · rw [if_neg hx]
        simp only [Cells.read]
    · rw [if_neg h1]
      by_cases h2 : a = e
      · rw [if_pos h2]
        subst h2
        by_cases hx : x = d
        · rw [if_pos hx]
          by_cases hb : b = a
          · rw [if_pos hb, hx, hb]
            exact read_above m a hab
          · simp [Cells.read, hb]
        · rw [if_neg hx]
          by_cases hb : b = a <;> simp [Cells.read, hb]
      · rw [if_neg h2]
        simp only [Cells.read]
        by_cases hb : b = e
        · subst hb
          rw [if_pos rfl, if_neg (fun h => h2 h.symm), if_pos rfl]
        · rw [if_neg hb, if_neg hb]
          exact ih hw

/-- Every entry of a memory after a write was listed before or is the written one. -/
theorem mem_write (m : Cells α) (a : Nat) (x : α) (c : Nat × α) (h : c ∈ Cells.write d m a x) :
    c ∈ m ∨ c = (a, x) := by
  induction m with
  | nil =>
    simp only [Cells.write] at h
    split at h
    · simp at h
    · simp at h; exact Or.inr h
  | cons e m ih =>
    obtain ⟨b, v⟩ := e
    simp only [Cells.write] at h
    split at h
    · split at h
      · exact Or.inl h
      · rcases List.mem_cons.1 h with rfl | h
        · exact Or.inr rfl
        · exact Or.inl h
    · split at h
      · split at h
        · exact Or.inl (List.mem_cons_of_mem _ h)
        · rcases List.mem_cons.1 h with rfl | h
          · exact Or.inr rfl
          · exact Or.inl (List.mem_cons_of_mem _ h)
      · rcases List.mem_cons.1 h with rfl | h
        · exact Or.inl (List.mem_cons_self ..)
        · rcases ih h with h | h
          · exact Or.inl (List.mem_cons_of_mem _ h)
          · exact Or.inr h

/-- A write keeps the canonical form. -/
theorem wf_write (m : Cells α) (hm : Cells.wf d m = true) (a : Nat) (x : α) : Cells.wf d (Cells.write d m a x) = true := by
  induction m with
  | nil =>
    simp only [Cells.write]
    split
    · rfl
    · rename_i hx
      simp [Cells.wf, hx]
  | cons e m ih =>
    obtain ⟨b, v⟩ := e
    obtain ⟨hv, hab, hw⟩ := (wf_cons _ _).1 hm
    simp only [Cells.write]
    split
    · rename_i h1
      split
      · exact hm
      · rename_i hx
        refine (wf_cons _ _).2 ⟨hx, ?_, hm⟩
        intro c hc
        rcases List.mem_cons.1 hc with rfl | hc
        · exact h1
        · exact Nat.lt_trans h1 (hab c hc)
    · rename_i h1
      split
      · rename_i h2
        split
        · exact hw
        · rename_i hx
          exact (wf_cons _ _).2 ⟨hx, h2 ▸ hab, hw⟩
      · rename_i h2
        refine (wf_cons _ _).2 ⟨hv, ?_, ih hw⟩
        intro c hc
        rcases mem_write m a x c hc with hc | rfl
        · exact hab c hc
        · simp at h1 ⊢; omega

/-- Clearing keeps the canonical form. -/
theorem wf_clear (m : Cells α) (hm : Cells.wf d m = true) (lo hi : Nat) : Cells.wf d (Cells.clear m lo hi) = true := by
  induction m with
  | nil => rfl
  | cons c m ih =>
    obtain ⟨hv, hab, hw⟩ := (wf_cons _ _).1 hm
    simp only [Cells.clear, List.filter_cons]
    split
    · refine (wf_cons _ _).2 ⟨hv, ?_, ih hw⟩
      intro e he
      exact hab e (List.mem_filter.1 he).1
    · exact ih hw

/-- A list of words written keeps the canonical form. -/
theorem wf_writeList (xs : List α) (m : Cells α) (hm : Cells.wf d m = true) (a : Nat) :
    Cells.wf d (Cells.writeList d m a xs) = true := by
  induction xs generalizing m a with
  | nil => exact hm
  | cons x xs ih => exact ih _ (wf_write m hm a x) _

/-- A read after a list of words written: the word of the list where it reaches, else as before. -/
theorem read_writeList (xs : List α) (m : Cells α) (hm : Cells.wf d m = true) (a b : Nat) :
    Cells.read d (Cells.writeList d m a xs) b =
      if a ≤ b ∧ b < a + xs.length then xs.getD (b - a) d else Cells.read d m b := by
  induction xs generalizing m a with
  | nil =>
    simp only [Cells.writeList, List.length_nil]
    rw [if_neg (by omega)]
  | cons x xs ih =>
    simp only [Cells.writeList, List.length_cons]
    rw [ih _ (wf_write m hm a x), read_write m hm]
    by_cases h : b = a
    · subst h
      rw [if_neg (by omega), if_pos rfl, if_pos (by omega), Nat.sub_self]
      rfl
    · by_cases h2 : a ≤ b ∧ b < a + (xs.length + 1)
      · rw [if_pos h2, if_pos (by omega)]
        have : b - a = (b - (a + 1)) + 1 := by omega
        rw [this, List.getD_cons_succ]
      · rw [if_neg h2, if_neg (by omega), if_neg h]

/-- A pool write lists no word beyond the pool. -/
theorem inside_poolWrite (p : Cells Sample) (h : ∀ c ∈ p, c.1 < Config.poolWords) (a : Nat) (x : Sample) :
    ∀ c ∈ poolWrite p a x, c.1 < Config.poolWords := by
  intro c hc
  unfold poolWrite at hc
  split at hc
  · rename_i ha
    rcases mem_write p a x c hc with hc | rfl
    · exact h c hc
    · exact ha
  · exact h c hc

/-- A pool write keeps the canonical form. -/
theorem wf_poolWrite (p : Cells Sample) (h : Cells.wf 0 p = true) (a : Nat) (x : Sample) :
    Cells.wf 0 (poolWrite p a x) = true := by
  unfold poolWrite
  split
  · exact wf_write p h a x
  · exact h

/-- The memories that the store writes are canonical. -/
theorem wf_imageMemory (image : List Word) : Cells.wf erasedWord (imageMemory image) = true := wf_writeList _ _ rfl _

theorem wf_recordMemory (r : StartRecord) : Cells.wf erasedWord (recordMemory r) = true := wf_writeList _ _ rfl _

theorem wf_failedMemory (n : Nat) : Cells.wf erasedWord (failedMemory n) = true := wf_writeList _ _ rfl _

theorem wf_cutSector (n : Nat) (t m : Cells Word) : Cells.wf erasedWord (cutSector n t m) = true := wf_writeList _ _ rfl _

theorem wf_brokenRecord (r : StartRecord) : Cells.wf erasedWord (brokenRecord r) = true := wf_writeList _ _ rfl _

end Sys2Proof.Machine
end

