-- ==== Sys2Proof/Laws/Numbers.lean ====
section
/-! SUPPORT. What the number operations can give (R4 to R10, R199). -/

namespace Sys2Proof.Machine

/-- Full scale as a range (R1). -/
theorem fullScale_iff (v : Int) : fullScale v = true ↔ -8388608 ≤ v ∧ v ≤ 8388607 := decide_eq_true_iff

/-- sat() in plain numbers (R6). -/
theorem sat_eq (v : Int) : sat v = if 8388607 < v then 8388607 else if v < -8388608 then -8388608 else v := rfl

/-- sat() gives a sample within full scale (R6). -/
theorem fullScale_sat (v : Int) : fullScale (sat v) = true := by
  rw [fullScale_iff, sat_eq]
  split
  · omega
  · split <;> omega

/-- sat() leaves a sample within full scale (R6). -/
theorem sat_of_fullScale (v : Int) (h : fullScale v = true) : sat v = v := by
  rw [fullScale_iff] at h
  rw [sat_eq, if_neg (by omega), if_neg (by omega)]

/-- A clip occurrence is an application of sat() outside full scale (R6). -/
theorem clips_iff (v : Int) : clips v = true ↔ ¬ fullScale v = true := by
  simp only [clips, bne_iff_ne]
  constructor
  · intro h1 h2
    exact h1 (sat_of_fullScale v h2)
  · intro h1 h2
    exact h1 (h2 ▸ fullScale_sat v)

/-- rnd() is the nearest integer, halves toward plus infinity (R4). -/
theorem rnd_spec (v : Int) : 65536 * rnd v ≤ v + 32768 ∧ v + 32768 < 65536 * rnd v + 65536 := by
  unfold rnd
  omega

/-- A composite is at most silence (R8). -/
theorem composite_le (a b : Nat) : composite a b ≤ Config.silence := Nat.min_le_right _ _

/-- A ramp step ends between the current and the target (R10). -/
theorem rampStep_between (rise fall target current : Nat) :
    min current target ≤ rampStep rise fall target current ∧ rampStep rise fall target current ≤ max current target := by
  unfold rampStep
  split
  · omega
  · split <;> omega

/-- A current at its target is at rest (R10). -/
theorem rampStep_rest (rise fall target : Nat) : rampStep rise fall target target = target := by
  simp [rampStep]

/-- A counter stays within its range (R199). -/
theorem bump_le (n : Nat) : bump n ≤ Config.counterTop := Nat.min_le_right _ _

/-- A frame number stays within its range (R19). -/
theorem nextFrame_lt (n : Nat) : nextFrame n < Config.frameNumbers := Nat.mod_lt _ (by decide)

/-- A field of `n` bits lies below 2^n. -/
theorem field_lt (w : Word) (lo n : Nat) : field w lo n < 2 ^ n := Nat.mod_lt _ (Nat.two_pow_pos n)

/-- A magnitude clamped lies within its range (R124). -/
theorem clampTo_range (lo hi x : Nat) (h : lo ≤ hi) : lo ≤ clampTo lo hi x ∧ clampTo lo hi x ≤ hi := by
  unfold clampTo
  omega

/-- A magnitude in range is not clamped (R124). -/
theorem clampTo_id (lo hi x : Nat) (h1 : lo ≤ x) (h2 : x ≤ hi) : clampTo lo hi x = x := by
  unfold clampTo
  omega

/-- A target of an output is at most silence (R97). -/
theorem targetUnder_le (mute : Bool) (s : State) (m : Fin 32) : targetUnder mute s m ≤ Config.silence := by
  unfold targetUnder
  dsimp only
  split
  · exact Nat.le_refl _
  · exact composite_le _ _

/-- A table entry set: that entry is the new one, every other as before. -/
@[simp] theorem getElem_setAt {α : Type} {n : Nat} (t : Vector α n) (i j : Fin n) (a : α) :
    (setAt t i a)[j] = if i = j then a else t[j] := by
  simp only [setAt, Fin.getElem_fin, Vector.getElem_set, Fin.ext_iff]

@[simp] theorem getElem_changeAt {α : Type} {n : Nat} (t : Vector α n) (i j : Fin n) (f : α → α) :
    (changeAt t i f)[j] = if i = j then f t[i] else t[j] := by
  simp only [changeAt, getElem_setAt]

@[simp] theorem getElem_changeAll {α β : Type} {n : Nat} (t : Vector α n) (j : Fin n) (f : Fin n → α → β) :
    (changeAll t f)[j] = f j t[j] := by
  simp [changeAll]

end Sys2Proof.Machine
end

