-- ==== Sys2Proof/Laws/Requests.lean ====
section
/-! SUPPORT. How commands are met: a request that is heard is served, one that is not changes nothing, and an
event is taken where it is due. Proofs about a single command start here. -/

namespace Sys2Proof.Machine

/-- Every request command is the handling of its request. -/
theorem exec_request {c : Instr} {h : Header} {r : Request} (hc : c.request? = some (h, r)) (s : State) :
    exec c s = .next (handle h r s) := by
  cases c <;> simp only [Instr.request?, Option.some.injEq, Prod.mk.injEq, reduceCtorEq] at hc <;>
    (obtain ⟨rfl, rfl⟩ := hc; rfl)

/-- A header that is heard is executed (R34). -/
theorem executes_of_heard {h : Header} {s : State} (hs : Heard h s) : executes h s = true := by
  obtain ⟨hp, hf, hl, hn⟩ := hs
  cases hn with
  | inl hn => simp [executes, hp, hf, hl, hn]
  | inr hn => simp [executes, hp, hf, hl, hn]

/-- A header that is executed is heard (R34). -/
theorem heard_of_executes {h : Header} {s : State} (hs : executes h s = true) : Heard h s := by
  simp only [executes, Bool.and_eq_true, Bool.not_eq_true', beq_iff_eq, Bool.or_eq_true] at hs
  exact ⟨hs.1.1.1, hs.1.1.2, hs.1.2, hs.2⟩

/-- A request that is heard is served. -/
theorem handle_of_heard {h : Header} {s : State} (r : Request) (hs : Heard h s) : handle h r s = serve h r s := by
  rw [handle, executes_of_heard hs, if_pos rfl]

/-- A request that is not heard changes nothing. -/
theorem handle_of_not_heard {h : Header} {s : State} (r : Request) (hs : ¬ Heard h s) : handle h r s = s := by
  have : executes h s = false := by
    cases he : executes h s with
    | false => rfl
    | true => exact absurd (heard_of_executes he) hs
  rw [handle, this]
  rfl

/-- A request that moves no level leaves what its operation leaves, answered (R180). -/
theorem serve_of_still {h : Header} {r : Request} {s : State} (hq : (requestOp r s).1.out = s.out)
    (hn : (requestOp r s).1.node.number = s.node.number)
    (hl : ∀ k ∈ levelKinds, levelHigh (requestOp r s).1 k = levelHigh s k) :
    serve h r s = answered h r.kindCode (requestOp r s).2 (requestOp r s).1 := by
  have he : edges s (requestOp r s).1 = (requestOp r s).1 := edges_same s _ (fun k hk => (hl k hk).symm)
  simp only [serve, he, answered, answerOf, hq, hn]

/-- Every served request is its operation, answered, but for the Notice Unit. -/
theorem serve_but_notices {h : Header} {r : Request} {s : State}
    (hn : (requestOp r s).1.node.number = s.node.number) :
    SameButNotices (answered h r.kindCode (requestOp r s).2 (requestOp r s).1) (serve h r s) := by
  unfold SameButNotices serve
  simp only [answered, answerOf, hn]
  rw [edges_frame]

/-- An event that is due is taken, with its edges. -/
theorem happens_due {due : Bool} {f : State → State} {s : State} (hw : Works s) (hd : due = true) :
    happens due f s = .next (withEdges f s) := by
  simp [happens, working, hw.powered, hw.free, hd]

/-- An event that is not due changes nothing. -/
theorem happens_not_due {due : Bool} {f : State → State} {s : State} (hd : due = false) :
    happens due f s = .next s := by
  simp [happens, hd]

/-- An operation that moves no level has no edges. -/
theorem withEdges_of_still {f : State → State} {s : State}
    (hl : ∀ k ∈ levelKinds, levelHigh (f s) k = levelHigh s k) : withEdges f s = f s := edges_same s (f s) (fun k hk => (hl k hk).symm)

end Sys2Proof.Machine
end

