-- ==== Sys2Proof/Tests/Slice0.lean ====
section
/-! SUPPORT. Tests. Expected values come from the worked examples and tables of the manual, or from hand
calculation from them; each group names its rule. The witnesses at the end meet the hypotheses of the statements. -/

namespace Sys2Proof.Tests

open Sys2Proof Sys2Proof.Machine

set_option Elab.async false

/-! ### Ill-formed terms, one for each check -/

def toFive : Header := ⟨5, false, 0x2A⟩

theorem test_target_width : Instr.wellFormed (.status ⟨16, false, 0⟩) = false := by decide
theorem test_tag_width : Instr.wellFormed (.status ⟨0, false, 256⟩) = false := by decide
theorem test_aim_view_width : Instr.wellFormed (.aim toFive 2 0 0 0) = false := by decide
theorem test_aim_table_width : Instr.wellFormed (.aim toFive 0 256 0 0) = false := by decide
theorem test_aim_index_width : Instr.wellFormed (.aim toFive 0 0 8192 0) = false := by decide
theorem test_aim_step_width : Instr.wellFormed (.aim toFive 0 0 0 2) = false := by decide
theorem test_put_count_width : Instr.wellFormed (.put toFive 256 (List.replicate 12 0)) = false := by decide
theorem test_put_payload_length : Instr.wellFormed (.put toFive 1 (List.replicate 11 0)) = false := by decide
theorem test_take_count_width : Instr.wellFormed (.take toFive 256) = false := by decide
theorem test_bad_cell_kind_width : Instr.wellFormed (.badCell toFive 16) = false := by decide
theorem test_commit_frame_width : Instr.wellFormed (.commit toFive .cut (.atFrame 16777216)) = false := by decide
theorem test_sector_widths :
    [Instr.recallSector toFive 256, .write toFive 256, .erase toFive 256, .protect toFive 256, .unprotect toFive 256,
      .setStart toFive 256].all (fun c => !c.wellFormed) = true := by decide
theorem test_guard_reset_width : Instr.wellFormed (.guardReset toFive 256) = false := by decide
theorem test_fire_kind_width : Instr.wellFormed (.fire toFive 256 0 0 0) = false := by decide
theorem test_fire_target_width : Instr.wellFormed (.fire toFive 0 256 0 0) = false := by decide
theorem test_fire_level_width : Instr.wellFormed (.fire toFive 0 0 65536 0) = false := by decide
theorem test_fire_length_width : Instr.wellFormed (.fire toFive 0 0 0 4294967296) = false := by decide
theorem test_arm_kind_width : Instr.wellFormed (.arm toFive 256 0 0 0 0) = false := by decide
theorem test_arm_number_width : Instr.wellFormed (.arm toFive 0 256 0 0 0) = false := by decide
theorem test_arm_trigger_width : Instr.wellFormed (.arm toFive 0 0 256 0 0) = false := by decide
theorem test_arm_length_width : Instr.wellFormed (.arm toFive 0 0 0 65536 0) = false := by decide
theorem test_arm_frame_width : Instr.wellFormed (.arm toFive 0 0 0 0 16777216) = false := by decide
theorem test_mask_width : Instr.wellFormed (.clearFlags toFive 4294967296) = false := by decide
theorem test_straps_width : Instr.wellFormed (.powerOnReset 16) = false := by decide
theorem test_frame_length : Instr.wellFormed (.arrival (List.replicate 147 0)) = false := by decide +kernel
theorem test_value_full_scale : Instr.wellFormed (.captureComplete 8388608) = false := by decide
theorem test_edges_of_fields_are_well_formed :
    [Instr.aim ⟨15, true, 255⟩ 1 255 8191 1, .commit toFive .auto (.atFrame 16777215), .fire toFive 255 255 65535 4294967295,
      .powerOnReset 15, .arrival (List.replicate 148 0), .captureComplete (-8388608)].all Instr.wellFormed = true := by
  decide +kernel

/-! ### Cells written out from the layouts of R200, one for each kind of request

Word 0: kind 1 in bits 1 to 0, broadcast in bit 2, target in bits 7 to 4, request kind in bits 11 to 8, tag in
bits 31 to 24. -/

/-- A cell of two header words and a payload. -/
def cell (w0 w1 : Word) (payload : List Word) : List Word := w0 :: w1 :: (payload ++ List.replicate (12 - payload.length) 0)

theorem test_cell_aim : decodeCell (cell 0x2A000051 0x01FE0303 []) = some (toFive, .aim 1 3 510 1) := by decide
theorem test_cell_where : decodeCell (cell 0x2A000151 0 []) = some (toFive, .wherePointer) := by decide
theorem test_cell_take : decodeCell (cell 0x2A000351 4 []) = some (toFive, .take 4) := by decide
theorem test_cell_status_broadcast : decodeCell (cell 0x2A000555 0 []) = some (⟨5, true, 0x2A⟩, .status) := by decide
theorem test_cell_commit : decodeCell (cell 0x2A000451 0 [3, 0x00FFFFFF]) = some (toFive, .commit .cut (.atFrame 16777215)) := by
  decide
theorem test_cell_recall : decodeCell (cell 0x2A000451 3 [9]) = some (toFive, .recallSector 9) := by decide
theorem test_cell_set_start_none : decodeCell (cell 0x2A000451 8 [255]) = some (toFive, .setStart 255) := by decide
theorem test_cell_fire : decodeCell (cell 0x2A000451 10 [0x1F01, 96, 4800]) = some (toFive, .fire 1 31 96 4800) := by decide
theorem test_cell_arm : decodeCell (cell 0x2A000451 12 [0x00021003, 4096, 77]) = some (toFive, .arm 3 16 2 4096 77) := by
  decide
theorem test_cell_clear_flags : decodeCell (cell 0x2A000451 14 [0x7FFF]) = some (toFive, .clearFlags 0x7FFF) := by decide
theorem test_cell_unknown_kind : decodeCell (cell 0x2A000651 0 []) = some (toFive, .badCell 6) := by decide
theorem test_cell_unknown_operation : decodeCell (cell 0x2A000451 16 []) = some (toFive, .badCell 4) := by decide
theorem test_cell_idle : decodeCell (cell 0 0 []) = none := by decide
theorem test_cell_answer : decodeCell (cell 0x2A000052 0 []) = none := by decide

/-! ### Numbers -/

/-- R3: fixed points of the table. -/
theorem test_factors : [0, 8, 24, 48, 96, 320, 960, 1280, 1484, 1485, 1535, 1536].map factor =
    [65536, 61870, 55142, 46396, 32846, 6554, 66, 7, 2, 1, 1, 0] := by decide +kernel

/-- R4: the rounding examples; halves go toward plus infinity. -/
theorem test_rnd : [98304, 32768, 32767, -32768, -32769].map rnd = [2, 1, 0, 0, -1] := by decide

/-- R6: the edges of full scale. -/
theorem test_sat : [8388607, 8388608, -8388608, -8388609].map sat = [8388607, 8388607, -8388608, -8388608] := by decide

/-- R8: the worked composites. -/
theorem test_composite : (composite 200 384, composite 1300 384) = (584, 1536) := by decide

/-- R10: neither step passes the target. -/
theorem test_ramp : (rampStep 4 32 100 50, rampStep 4 32 100 103, rampStep 4 32 100 100) = (82, 100, 100) := by decide

/-- R16: the three worked thresholds. -/
theorem test_thresholds : [0, 48, 1535].map thresholdSamples = [8388607, 5938687, 128] := by decide +kernel

/-- R83, R84: the worked derivations. -/
theorem test_decay : (decayOf 2400 2000, decayOf 2025 1000, decayOf 7677 100, decayOf 7678 100, decayOf 499 20000, decayOf 0 100) =
    (24, 41, 1535, 1536, 1, 1536) := by decide
theorem test_decay_markers : (clampOf 2400 2000, clampOf 7677 100, clampOf 7678 100, clampOf 500 20000, clampOf 499 20000,
    clampOf 0 100) = (false, false, true, false, true, false) := by decide

/-- R172: the first noise state and value from the seed 1, and at level 96 the worked noise and impulse samples. -/
theorem test_noise : (nextNoise 1, noiseValue (nextNoise 1)) = (1015568748, 3967065) := by decide
theorem test_noise_sample : burstSample ⟨true, .noise, 0, 96, 1, true, 1, none⟩ = 1988254 := by decide +kernel
theorem test_impulse_sample : burstSample ⟨true, .impulse, 0, 96, 1, true, 1, none⟩ = 4204287 := by decide +kernel

/-- R134: distances wrap. -/
theorem test_distance : (distance 5 3, distance 3 16777215, distance 3 5) = (2, 4, 16777214) := by decide

/-- R201: the check over nothing is the register's start, all ones; over one word of zeros it is 84C0
hexadecimal (reckoned apart from the model, with the same divisor). -/
theorem test_check : (check [], check [0]) = (65535, 0x84C0) := by decide +kernel

/-! ### States for single steps -/

/-- The state a command answers. -/
def after (o : Result) : State :=
  match o with
  | .next t => t
  | .fault _ => State.reset
  | .refused _ => State.reset

/-- A locked node 0 at frame number 1,000. -/
def locked : State :=
  { State.reset with ring := { State.reset.ring with lock := .locked, signal := true, frameNumber := 1000 } }

def node0 : Header := ⟨0, false, 7⟩

/-- What node 0 answers: result, count and payload. -/
def reply (s : State) : Option (ResultCode × Nat × List Word) := s.out.answer.map (fun a => (a.result, a.count, a.payload))

def pointed (v : View) (t : TableName) (i : Nat) : State := { locked with pointer := ⟨v, t, i, 1⟩ }

def inEngine (e : EngineState) (o : Operation) (f : Option Nat) : State := { locked with engine := ⟨e, o, f, false, 2⟩ }

def inStore (st : StoreState) (n : Option (Fin 16)) (count : Nat) : State :=
  { locked with store := { locked.store with state := st, sector := n, count := count } }

/-- Locked, output 31 bound to slot 127 in both banks. -/
def bound : State :=
  let b := { silenceBank with outputs := setAt silenceBank.outputs 31 ⟨some 127, 0, 0, 0, some 3⟩ }
  { locked with bankA := b, bankB := b }

/-- Input 23 bound to slot 127 with the admit count 255 and the drop limit 0, in an admission state. -/
def input23 (a : AdmissionState) (qualify invalidRun : Nat) : State :=
  { locked with
    bankA := { silenceBank with inputs := setAt silenceBank.inputs 23 ⟨some 127, 0, 255, 0⟩ }
    inputs := setAt locked.inputs 23 ⟨a, qualify, invalidRun, 7, 65535⟩ }

/-! ### One step of each kind -/

/-- R183, R200: an AIM, and the WHERE that returns it as its parameter word. -/
theorem test_aim : (after (execAim node0 1 3 510 1 locked)).pointer = ⟨.pending, .bank .taps, 510, 1⟩ := by decide +kernel
theorem test_aim_past_end : reply (after (execAim node0 1 3 512 1 locked)) = some (.range, 0, []) := by decide +kernel
theorem test_where : reply (after (execWhere node0 (pointed .pending (.bank .taps) 510))) = some (.done, 0, [0x01FE0303]) := by
  decide +kernel

/-- The worked multi-record PUT of four TAPS records: RANGE with count 2, the second clamped. -/
def fourTaps : List Word := [900, 0x000200C8, 1300, 0x01020640, 1, 0, 1, 0, 0, 0, 0, 0]

theorem test_put_taps_answer : reply (after (execPut node0 4 fourTaps (pointed .pending (.bank .taps) 510))) = some (.range, 2, []) := by
  decide +kernel
theorem test_put_taps_clamped :
    (after (execPut node0 4 fourTaps (pointed .pending (.bank .taps) 510))).bankB.taps[511] = ⟨2, 1300, .minus, 1536⟩ := by
  decide +kernel

/-- R187: a counter is cleared by its read. -/
theorem test_take_counter :
    (let t := after (execTake node0 1 { pointed .pending .counters 3 with badCells := 9 }); (reply t, t.badCells)) =
      (some (.done, 1, [9]), 0) := by decide +kernel

/-- R198, R200: lock state 2, active bank A, engine STEADY; scheduled frame NONE; store sector NONE; and the
STORE_FAILED of the power-on scan with RING_LOCKED high. -/
theorem test_status : reply (after (execStatus node0 locked)) =
    some (.done, 0, [2, 1000, 0x80000000, 255, 0, 0x00010200]) := by decide +kernel

/-- R190: a malformed cell is counted. -/
theorem test_bad_cell : (let t := after (execBadCell node0 9 locked); (reply t, t.badCells, t.notices.flags[14])) =
    (some (.refused, 0, []), 1, true) := by decide +kernel

/-- R134: the frame that is 65,536 ahead is out of reach, the one 65,535 ahead is not; a COMMIT in FADE_IN is BUSY. -/
theorem test_reach : (inReach (distance 66536 1000), inReach (distance 66535 1000), inReach (distance 1000 1000)) =
    (false, true, false) := by decide
theorem test_commit_busy : reply (after (execCommit node0 .cut .now (inEngine .fadeIn .reset none))) = some (.busy, 0, []) := by
  decide +kernel

theorem test_cancel : reply (after (execCancel node0 (inEngine .clearing (.commit .cut) none))) = some (.late, 0, []) := by decide +kernel
theorem test_copy_locked : reply (after (execCopy node0 (inStore .recalling (some 3) 12))) = some (.locked, 0, []) := by decide +kernel
theorem test_erase : (let t := after (execErase node0 15 locked); (t.store.state, t.store.sector, t.store.count)) =
    (.erasing, some 15, 300) := by decide +kernel
theorem test_write_engine_busy : reply (after (execWrite node0 0 (inEngine .fadeOut .reset none))) = some (.busy, 0, []) := by
  decide +kernel
theorem test_recall_empty : reply (after (execRecall node0 0 locked)) = some (.refused, 0, []) := by decide +kernel
theorem test_protect : (after (execProtect node0 7 locked)).store.newRecord.map (fun r => r.guarded[7]) = some true := by decide +kernel
theorem test_unprotect_nothing : reply (after (execUnprotect node0 7 locked)) = some (.nothing, 0, []) := by decide +kernel
theorem test_set_start_range : reply (after (execSetStart node0 16 locked)) = some (.range, 0, []) := by decide +kernel
theorem test_guard_reset_range : reply (after (execGuardReset node0 32 locked)) = some (.range, 0, []) := by decide +kernel
theorem test_fire : (let t := after (execFire node0 1 31 96 70000 bound); (reply t, t.gen.remaining, t.gen.noise)) =
    (some (.clamped, 0, []), 65535, 1) := by decide +kernel
theorem test_fire_unbound : reply (after (execFire node0 0 30 0 1 bound)) = some (.range, 0, []) := by decide +kernel
theorem test_stop_generator : reply (after (execStopGenerator node0 locked)) = some (.nothing, 0, []) := by decide +kernel
theorem test_arm : (after (execArm node0 3 127 0 4096 0 locked)).capture.point = .slot 127 := by decide +kernel
theorem test_stop_capture : reply (after (execStopCapture node0 locked)) = some (.nothing, 0, []) := by decide +kernel
theorem test_clear_flags : (after (execClearFlags node0 0x200 locked)).notices.flags[9] = false := by decide +kernel
theorem test_reset_node : (let t := after (execResetNode node0 locked); (t.engine.state, t.engine.operation)) = (.fadeOut, .reset) := by
  decide +kernel
theorem test_other_node : after (execResetNode toFive locked) = locked := by rfl

/-- R172: the last sample of a NOISE burst replaces the noise state 1 by 1,015,568,748. -/
theorem test_burst_end_noise :
    (after (execBurstEnd { locked with gen := ⟨true, .noise, 31, 0, 1, false, 1, none⟩ })).gen.noise = 1015568748 := by
  decide +kernel

/-- R176: a FIRE after the one that triggered the capture does not put its start off. -/
theorem test_second_fire :
    (let s : State := { bound with capture := { bound.capture with state := .armed, trigger := .withGenerator, triggered := true } }
     (after (execFire node0 0 31 0 1 s)).marks.capture) = false := by decide +kernel

/-- R163, R200: a later amendment of a name word replaces an earlier one, on ORATORIO and on AB. -/
theorem test_amended_names :
    (untilEnd (amendName (amendName [79, 82, 65, 84, 79, 82, 73, 79] 0 0x4241) 0 0x5A595857),
      untilEnd (amendName (amendName [65, 66] 1 0x53525150) 0 0x5A595857)) =
    ([87, 88, 89, 90, 79, 82, 73, 79], [87, 88, 89, 90, 80, 81, 82, 83]) := by decide

/-- R53: inside a frame period the edge of INPUT_MISSING waits for its end. -/
theorem test_missing_edge_waits :
    (let s : State := { input23 .absent 0 0 with marks := { locked.marks with missing := some false } }
     ((edges locked s).notices.flags[1], (missingEdge s).notices.flags[1])) = (false, true) := by decide +kernel

/-- R103: a detection adds the duck step 48 and restarts the hold at 375. -/
def loud : State :=
  { bound with outputs := setAt bound.outputs 31 ⟨0, 0, 8000000, ⟨.watch, 0, 7, 0, 0⟩, 0⟩ }

theorem test_guard_detection : (after (execGuardDetection 31 loud)).outputs[31].guard = ⟨.ducked, 48, 0, 375, 0⟩ := by
  decide +kernel

/-- R203: the straps; R37: the lock state after power-on. -/
theorem test_power_on : (let t := after (execPowerOnReset 13 locked); (t.node.number, t.ring.lock)) = (13, .unlocked) := by
  decide +kernel

/-- R32: while the reset pin is held a frame leaves as received. -/
theorem test_reset_pin : (after (execArrival [1, 2, 3] (after (execResetPinAssert locked)))).out.frame = some [1, 2, 3] := by rfl

/-- R29: a lock loss counts and mutes. -/
theorem test_lock_loss : (let t := after (execLockLoss locked); (t.ring.lock, t.ring.lockLosses, t.notices.flags[0])) =
    (.unlocked, 1, true) := by decide +kernel

/-- R19, R24, R29: LOCK_ACQUIRED as the first frame period adopts 1,001; after the lock loss the oscillator counts on. -/
theorem test_number_counts_on :
    oscillatorNumber (after (execLockLoss (after (execLockAcquired
      { State.reset with ring := { State.reset.ring with lock := .acquiring, acqRun := 47, acqRef := 1000 } })))) = 1002 := by
  decide +kernel

/-- No table word spells a command. -/
theorem test_no_table_word : decodeTableWord 32 0 = none := by rfl

/-! ### Witnesses: states and operands that meet the hypotheses of the statements

Each is named after its statement. A statement of several clauses has a conjunct for each. -/

/-- A frame of a number and a flag, its word 147 `last`. The upper half of its word 1 is the register after
word 0, so the register is 0 from there on, and a check word of 0 is the right one. -/
def frame (n : Nat) (flag : Bool) (last : Word) : Frame :=
  let w0 := word (n + placeBit 24 flag)
  w0 :: word (check [w0] * 65536) :: (List.replicate 145 0 ++ [last])

theorem check_zeros (n : Nat) : (List.replicate n (0 : Word)).foldl checkWord 0 = 0 := by
  induction n with
  | zero => rfl
  | succ n ih =>
    rw [List.replicate_succ, List.foldl_cons, show checkWord 0 0 = 0 from by decide +kernel]
    exact ih

theorem check_of_two (a b : Word) (n : Nat) (h : checkWord (check [a]) b = 0) : check (a :: b :: List.replicate n 0) = 0 := by
  rw [check, List.foldl_cons, List.foldl_nil] at h
  rw [check, List.foldl_cons, List.foldl_cons, h, check_zeros]

theorem checked_frame (a b last : Word) :
    checkedWords (a :: b :: (List.replicate 145 0 ++ [last])) = a :: b :: List.replicate 145 0 := by
  simp [checkedWords]

theorem frame_check (n : Nat) (flag : Bool) (last : Word)
    (h : checkWord (check [word (n + placeBit 24 flag)]) (word (check [word (n + placeBit 24 flag)] * 65536)) = 0) :
    checkCorrect (frame n flag last) = (field last 0 16 == 0) := by
  have h3 : wordAt (frame n flag last) 147 = last := by simp [wordAt, frame]
  rw [checkCorrect, h3]
  simp only [frame]
  rw [checked_frame, check_of_two _ _ _ h]
  exact Bool.beq_comm

/-- A frame of a number whose cell begins with a word, the word after it bringing the register back to 0. -/
def frameWith (n : Nat) (c : Word) : Frame :=
  let w0 := word n
  w0 :: word (check [w0] * 65536) ::
    (List.replicate 131 0 ++ c :: word (checkWord 0 c * 65536) :: (List.replicate 12 0 ++ [0]))

theorem good_frameWith (n : Nat) (c : Word) (h : checkWord (check [word n]) (word (check [word n] * 65536)) = 0)
    (h2 : checkWord (checkWord 0 c) (word (checkWord 0 c * 65536)) = 0) (h3 : upstreamError (frameWith n c) = false) :
    classify (frameWith n c) = .good := by
  have hw : wordAt (frameWith n c) 147 = 0 := by simp [wordAt, frameWith]
  have hc : checkedWords (frameWith n c) = word n :: word (check [word n] * 65536) ::
      (List.replicate 131 0 ++ c :: word (checkWord 0 c * 65536) :: List.replicate 12 0) := by simp [checkedWords, frameWith]
  have hz : check (checkedWords (frameWith n c)) = 0 := by
    rw [check, List.foldl_cons, List.foldl_nil] at h
    simp only [check] at h hc
    rw [hc, check]
    simp only [List.foldl_cons, List.foldl_append, List.foldl_nil] at h ⊢
    rw [h, check_zeros, h2, check_zeros]
  rw [classify, checkCorrect, hz, hw, h3]
  rfl

/-- Frames with a STATUS for node 0 and for node 5, and with an ANSWER. -/
theorem good_status : classify (frameWith 1001 0x2A000501) = .good :=
  good_frameWith _ _ (by decide +kernel) (by decide +kernel) (by decide +kernel)

theorem good_status5 : classify (frameWith 1001 0x2A000551) = .good :=
  good_frameWith _ _ (by decide +kernel) (by decide +kernel) (by decide +kernel)

theorem good_answer : classify (frameWith 1001 2) = .good :=
  good_frameWith _ _ (by decide +kernel) (by decide +kernel) (by decide +kernel)

theorem good_boundary : classify (frameWith 1024 2) = .good :=
  good_frameWith _ _ (by decide +kernel) (by decide +kernel) (by decide +kernel)

/-- A node in ACQUIRING with a run and the reference 1,000. -/
def acquiring (run : Nat) : State :=
  { State.reset with ring := { State.reset.ring with lock := .acquiring, acqRun := run, acqRef := 1000 } }

theorem works_reset : Works State.reset := ⟨rfl, rfl⟩
theorem works_locked : Works locked := ⟨rfl, rfl⟩
theorem heard_locked : Heard node0 locked := ⟨rfl, rfl, rfl, .inl rfl⟩

theorem good_1001 : classify (frame 1001 false 0) = .good := by
  rw [classify, frame_check 1001 false 0 (by decide +kernel)]
  decide +kernel

theorem good_1002 : classify (frame 1002 false 0) = .good := by
  rw [classify, frame_check 1002 false 0 (by decide +kernel)]
  decide +kernel

theorem flagged_1001 : classify (frame 1001 true 0) = .flagged := by
  rw [classify, frame_check 1001 true 0 (by decide +kernel)]
  decide +kernel

theorem bad_1001 : classify (frame 1001 false 1) = .bad := by
  rw [classify, frame_check 1001 false 1 (by decide +kernel)]
  decide +kernel

theorem frame_numbers : (frameNumberOf (frame 1001 false 0), frameNumberOf (frame 1002 false 0), (frame 1001 false 0).length) =
    (1001, 1002, 148) := by decide +kernel

theorem witness_StepTakesTheFrontCommand :
    ({ locked with pending := [.lockLoss, .burstEnd] } : State).pending = .lockLoss :: [.burstEnd] ∧ locked.pending = [] :=
  ⟨rfl, rfl⟩

theorem silence_legal : silenceBank.Legal where
  inputs i := by simp [silenceBank, InputRec.Legal]
  injections n := by simp [silenceBank, InjectionRec.Legal]
  lines j := by simp [silenceBank, LineRec.Legal, Config.poolWords, lengthOk]
  taps k := by simp [silenceBank, TapRec.Legal]
  outputs m := by simp [silenceBank, OutputRec.Legal]
  profiles p := by
    simp only [silenceBank, Fin.getElem_fin, Vector.getElem_replicate, ProfileRec.Legal]
    decide +kernel
  globals := by simp [silenceBank, GlobalsRec.Legal]

theorem witness_RingStaysLegal : ∃ s t : State, RingLegal s.ring ∧ step s = .next t ∧ t.ring.lock = .locked :=
  ⟨{ acquiring 47 with pending := [.lockAcquired] }, _, ⟨by decide, by decide, by decide, by decide, by decide⟩, rfl, rfl⟩

theorem witness_OutputsStayLegal : ∃ s t : State, OutputsLegal s ∧ step s = .next t :=
  ⟨{ locked with pending := [.guardReset node0 255] }, _, fun m => by
    refine ⟨by simp [locked, State.reset, Config.silence], ?_, ?_, ?_⟩ <;> simp [locked, State.reset, watchGuard], rfl⟩

theorem witness_EngineStaysLegal : ∃ s t : State, EngineLegal s.engine ∧ step s = .next t :=
  ⟨{ inEngine .scheduled (.commit .cut) (some 1001) with pending := [.commitExecution] }, _,
    ⟨by decide, by decide, fun _ => ⟨.cut, rfl⟩, by decide⟩, rfl⟩

theorem witness_StoreStaysLegal : ∃ s t : State, StoreLegal s.store ∧ step s = .next t :=
  ⟨{ inStore .erasing (some 3) 1 with pending := [.eraseCompletion] }, _, ⟨by decide, by decide, by decide, by decide⟩, rfl⟩

theorem witness_CaptureStaysLegal : ∃ s t : State, CaptureLegal s.capture ∧ step s = .next t :=
  ⟨{ locked with
    capture := { locked.capture with state := .armed, trigger := .atFrame, scheduled := some 1001 }
    pending := [.captureStart] }, _, by simp [CaptureLegal], rfl⟩

/-- Line 3 of the pending bank waits. -/
def waiting : State := { locked with decay := ⟨[(.b, 3)], none⟩ }

theorem witness_QueuesAndCountersStayLegal :
    (∃ s t : State, (RecomputesLegal s.decay ∧ NoticesLegal s.notices.queue) ∧ step s = .next t) ∧
    ∃ s t : State, CountersLegal s ∧ step s = .next t := by
  refine ⟨⟨{ waiting with notices := ⟨waiting.notices.flags, [⟨.clip, 7, 255, .none⟩]⟩, pending := [.decayTake] }, _,
    ⟨by simp [RecomputesLegal, waiting], by simp, fun e he => by
      simp only [List.mem_singleton] at he
      subst he
      exact ⟨by decide, by decide⟩⟩, rfl⟩,
    { locked with badCells := 65535, pending := [.badCell node0 4] }, _, ?_, rfl⟩
  intro i hi
  match i, hi with
  | 0, _ => decide
  | 1, _ => decide
  | 2, _ => decide
  | 3, _ => decide
  | n + 4, _ =>
    simp only [counterValue]
    split
    · simp [locked, State.reset]
    · split
      · simp [locked, State.reset]
      · split <;> simp [locked, State.reset]

theorem witness_MemoriesStayLegal : ∃ s t : State, MemoriesLegal s ∧ step s = .next t :=
  ⟨{ locked with reverb := { locked.reverb with pool := [(0, 5), (262143, -5)], clearing := true }, pending := [.clearingComplete] }, _,
    ⟨by decide, by decide, by decide, fun n => by simp [locked, State.reset, Cells.wf], by decide⟩, rfl⟩

theorem witness_SamplesStayLegal : ∃ s t : State, SamplesLegal s ∧ step s = .next t :=
  ⟨{ locked with reverb := { locked.reverb with pool := [(0, 8388607), (262143, -8388608)] }, pending := [.oscillatorFramePeriod] }, _,
    ⟨by decide, fun m => by simp [locked, State.reset, fullScale, Config.sampleBottom, Config.sampleTop],
      fun m => by simp [locked, State.reset, fullScale, Config.sampleBottom, Config.sampleTop]⟩, rfl⟩

theorem witness_TablesStayLegal : ∃ s t : State, TablesLegal s ∧ step s = .next t :=
  ⟨{ locked with pending := [.copy node0] }, _, ⟨silence_legal, silence_legal, fun k => by
    simp [locked, State.reset, defaultAmendment, Amendment.Legal, BankTable.size, BankTable.fields, fieldValue, mustBe]⟩, rfl⟩

theorem witness_NodeNumberIsFixed : ∃ t, exec .lockLoss locked = .next t ∧ (∀ straps, Instr.lockLoss ≠ .powerOnReset straps) :=
  ⟨_, rfl, fun _ => by simp⟩

theorem witness_NonvolatileMemoryIsKept : ∃ t, exec (.erase node0 3) locked = .next t ∧ mayWriteNonvolatile (.erase node0 3) = false :=
  ⟨_, rfl, rfl⟩

theorem witness_ResetPinHoldsThePart :
    let s : State := { locked with resetPin := true }
    s.powered = true ∧ s.resetPin = true ∧ (∀ straps, Instr.lockLoss ≠ .powerOnReset straps) ∧
      (∀ f, Instr.lockLoss ≠ .arrival f) ∧ Instr.lockLoss ≠ .powerLoss :=
  ⟨rfl, rfl, fun _ => by simp, fun _ => by simp, by simp⟩

theorem witness_UnheardRequestsChangeNothing :
    (Instr.resetNode toFive).request? = some (toFive, .resetNode) ∧ ¬ Heard toFive locked :=
  ⟨rfl, fun h => absurd h.named (by decide)⟩

theorem witness_LockedPendingBankIsKept : ∃ t, (Instr.copy node0).request? = some (node0, .copy) ∧
    pendingLocked (inStore .writing (some 3) 90) = true ∧ exec (.copy node0) (inStore .writing (some 3) 90) = .next t :=
  ⟨_, rfl, by decide, rfl⟩

theorem witness_SampleWorkIgnoresThePendingBank :
    let s : State := { locked with
      engine := { locked.engine with state := .clearing }, reverb := { locked.reverb with clearing := true, clearCount := 62 } }
    (s.engine.state = .clearing → s.reverb.clearCount < 63) ∧ s.engine.state = .clearing ∧ clearingPeriod s = true :=
  ⟨fun _ => by decide, rfl, rfl⟩

theorem witness_RampReachesItsTarget : 1 ≤ 1 ∧ 1 ≤ 255 ∧ (1536 - 0) + (0 - 1536) ≤ 1536 ∧ (5 - 5) + (5 - 5) ≤ 0 := by decide

theorem witness_DecayResultIsTheTable :
    (waiting.decay.current = none ∧ oldestEligible waiting = some (.b, 3)) ∧
    (let s : State := { locked with decay := ⟨[], some ⟨.b, 3, 0, 100⟩⟩ }
     s.decay.current = some ⟨.b, 3, 0, 100⟩ ∧ eligible s .b = true) ∧
    (rawDecay 499 20000 = 0 ∧ rawDecay 500 20000 = 1 ∧ rawDecay 7677 100 = 1535 ∧ rawDecay 7678 100 = 1536 ∧
      rawDecay 65536 100 = 13107 ∧ rawDecay 64 20000 = 0) := by decide +kernel

theorem witness_SealedFramePassesItsCheck : (List.replicate 148 (0 : Word)).length = 148 := by decide +kernel

theorem witness_RequestCellRoundTrip :
    (Header.wellFormed ⟨15, true, 255⟩ = true ∧ Request.wellFormed (.fire 255 255 65535 4294967295) = true ∧
      (∀ k, Request.fire 255 255 65535 4294967295 = .badCell k → k = 4 ∨ 6 ≤ k)) ∧
    Request.wellFormed (.badCell 15) = true ∧ (∀ k, Request.badCell 15 = .badCell k → k = 4 ∨ 6 ≤ k) := by
  refine ⟨⟨by decide, by decide, fun k h => by simp at h⟩, by decide, fun k h => ?_⟩
  simp only [Request.badCell.injEq] at h
  omega

theorem witness_BankImageRoundTrip : silenceBank.Legal := silence_legal

theorem witness_StoredImagesAreFoundAgain : (List.replicate 1347 (0 : Word)).length = 1347 := by rw [List.length_replicate]

/-- The start sector found VALID, and the start record with none. -/
theorem witness_PowerOnReset :
    (15 < 16 ∧ locked.store.state = .idle ∧ locked.store.suspended = none ∧ locked.store.newRecord = none) ∧
    (scanRecord (recordMemory ⟨some 15, Vector.replicate 16 true⟩) = some ⟨some 15, Vector.replicate 16 true⟩) ∧
    scanRecord [] = none := by decide +kernel

theorem witness_PowerLossEndsTheStore :
    let s : State := inStore .writing (some 3) 90
    s.powered = true ∧ (s.store.sector ≠ some 4 ∧ ∀ c, s.store.suspended ≠ some (4, c)) ∧ s.store.newRecord = none :=
  ⟨rfl, ⟨by decide, fun _ => by simp [inStore, locked, State.reset]⟩, rfl⟩

theorem witness_ArrivalOutsideLocked :
    (Works State.reset ∧ State.reset.ring.lock = .unlocked) ∧
    (Works (acquiring 46) ∧ (acquiring 46).ring.lock = .acquiring ∧ (acquiring 46).ring.acqRun < 47) ∧
    (classify (frame 1001 false 0) = .good ∧ frameNumberOf (frame 1001 false 0) = (1000 + 1) % 16777216) ∧
    (classify (frame 1002 false 0) = .good ∧ frameNumberOf (frame 1002 false 0) ≠ (1000 + 1) % 16777216) ∧
    classify (frame 1001 true 0) = .flagged ∧ classify (frame 1001 false 1) = .bad :=
  ⟨⟨works_reset, rfl⟩, ⟨⟨rfl, rfl⟩, rfl, by decide⟩, ⟨good_1001, by decide +kernel⟩, ⟨good_1002, by decide +kernel⟩,
    flagged_1001, bad_1001⟩

theorem witness_ArrivalKeepsLock :
    (Works (acquiring 47) ∧ (acquiring 47).ring.lock = .acquiring ∧ 47 ≤ (acquiring 47).ring.acqRun) ∧
    (Works locked ∧ locked.ring.lock = .locked ∧ locked.ring.errors + 1 < locked.node.threshold) ∧
    (classify (frame 1001 false 0) = .good ∧ frameNumberOf (frame 1001 false 0) = (1000 + 1) % 16777216) ∧
    (classify (frame 1002 false 0) = .good ∧ frameNumberOf (frame 1002 false 0) ≠ (1000 + 1) % 16777216) ∧
    classify (frame 1001 true 0) = .flagged ∧ classify (frame 1001 false 1) = .bad :=
  ⟨⟨⟨rfl, rfl⟩, rfl, by decide⟩, ⟨works_locked, rfl, by decide⟩, ⟨good_1001, by decide +kernel⟩, ⟨good_1002, by decide +kernel⟩,
    flagged_1001, bad_1001⟩

/-- A node one error short of losing lock at the threshold 4. -/
def lastChance : State := { locked with ring := { locked.ring with errors := 3 } }

theorem witness_ArrivalLosesLock :
    Works lastChance ∧ lastChance.ring.lock = .locked ∧ lastChance.node.threshold ≤ lastChance.ring.errors + 1 ∧
      classify (frame 1001 false 1) = .bad ∧
      (classify (frame 1002 false 0) = .good ∧ frameNumberOf (frame 1002 false 0) ≠ (lastChance.ring.frameNumber + 1) % 16777216) :=
  ⟨⟨rfl, rfl⟩, rfl, by decide, bad_1001, good_1002, by decide +kernel⟩

theorem witness_LockedFrameIsForwarded :
    Works bound ∧ bound.ring.lock = .locked ∧ (frame 1001 false 0).length = 148 ∧ classify (frame 1001 false 0) = .good ∧
      classify (frame 1001 true 0) = .flagged ∧ classify (frame 1001 false 1) = .bad ∧
      bound.ring.errors + 1 < bound.node.threshold ∧
      ((activeBank bound).outputs[31].slot = some 127 ∧ ∀ k : Fin 32, (activeBank bound).outputs[k].slot = some 127 → k = 31) ∧
      (∀ k : Fin 32, (activeBank bound).outputs[k].slot ≠ some 126) ∧
      (classify (frameWith 1001 2) = .good ∧ 2 ≤ cellKind (cellOf (frameWith 1001 2))) ∧
      (classify (frameWith 1001 0x2A000501) = .good ∧ cellKind (cellOf (frameWith 1001 0x2A000501)) = 1 ∧
        field (wordAt (cellOf (frameWith 1001 0x2A000501)) 0) 4 4 = bound.node.number) ∧
      (classify (frameWith 1001 0x2A000551) = .good ∧ cellKind (cellOf (frameWith 1001 0x2A000551)) = 1 ∧
        field (wordAt (cellOf (frameWith 1001 0x2A000551)) 0) 4 4 ≠ bound.node.number) ∧
      (cellKind (cellOf (frame 1001 false 0)) = 0 ∧ bound.notices.queue = [] ∧
        bound.node.enables = ⟨Vector.replicate 6 false, Vector.replicate 6 false, Vector.replicate 9 false⟩) ∧
      (let s : State := { bound with notices := ⟨bound.notices.flags, [⟨.clip, 7, 255, .none⟩, ⟨.badCell, 8, 1, .none⟩]⟩ }
       s.notices.queue = ⟨.clip, 7, 255, .none⟩ :: [⟨.badCell, 8, 1, .none⟩] ∧ 255 ≤ 255) ∧
      (Works (acquiring 47) ∧ (acquiring 47).ring.lock = .acquiring ∧ classify (frameWith 1001 0x2A000501) = .good ∧
        frameNumberOf (frameWith 1001 0x2A000501) = ((acquiring 47).ring.acqRef + 1) % 16777216 ∧
        47 ≤ (acquiring 47).ring.acqRun) :=
  ⟨⟨rfl, rfl⟩, rfl, by decide +kernel, good_1001, flagged_1001, bad_1001, by decide, by decide +kernel, by decide +kernel,
    ⟨good_answer, by decide +kernel⟩, ⟨good_status, by decide +kernel⟩, ⟨good_status5, by decide +kernel⟩,
    ⟨by decide +kernel, rfl, rfl⟩, ⟨rfl, le_refl _⟩, ⟨rfl, rfl⟩, rfl, good_status, by decide +kernel, by decide⟩

theorem witness_OscillatorTicks :
    (let s : State := { State.reset with ring := { State.reset.ring with signal := true, gap := 2 } }
     Works s ∧ s.ring.lock ≠ .locked ∧ s.ring.signal = true ∧ s.ring.gap < 3) ∧
    (Works locked ∧ locked.ring.lock = .locked ∧ locked.ring.signal = true ∧ locked.ring.gap < 3) ∧
    (let s : State := { locked with ring := { locked.ring with gap := 3 } }
     Works s ∧ s.ring.signal = true ∧ 3 ≤ s.ring.gap) :=
  ⟨⟨⟨rfl, rfl⟩, by decide, rfl, by decide⟩, ⟨works_locked, rfl, rfl, by decide⟩, ⟨rfl, rfl⟩, rfl, by decide⟩

/-- Node 0 with every notice enabled. -/
def noticing : NodeRecord := ⟨0, 4, ⟨Vector.replicate 6 true, Vector.replicate 6 true, Vector.replicate 9 true⟩⟩

theorem witness_LockEvents :
    (Works State.reset ∧ State.reset.ring.signal = false ∧ State.reset.ring.lock = .unlocked) ∧
    (let s : State := { acquiring 1 with ring := { (acquiring 1).ring with signal := true } }
     Works s ∧ s.ring.lock = .acquiring ∧ s.ring.signal = true) ∧
    (Works locked ∧ locked.ring.signal = true ∧ locked.ring.lock = .locked) ∧
    (Works (acquiring 47) ∧ (acquiring 47).ring.lock = .acquiring ∧ (acquiring 47).ring.acqRun = 47) ∧
    (let s : State := { locked with ring := { locked.ring with goodRun := 1023 } }
     Works s ∧ s.ring.lock = .locked ∧ s.ring.goodRun = 1023) ∧
    (let s : State := { acquiring 47 with node := noticing, notices := ⟨Vector.replicate 15 false, [⟨.ringLocked, 7, 255, .fall⟩]⟩ }
     Works s ∧ s.node.enables.rise[0] = true ∧
       (after (execLockAcquired s)).notices.queue = [⟨.ringLocked, 7, 255, .rise⟩]) :=
  ⟨⟨works_reset, rfl, rfl⟩, ⟨⟨rfl, rfl⟩, rfl, rfl⟩, ⟨works_locked, rfl, rfl⟩, ⟨⟨rfl, rfl⟩, rfl, rfl⟩, ⟨⟨rfl, rfl⟩, rfl, rfl⟩, ⟨rfl, rfl⟩, rfl,
    by decide +kernel⟩

theorem witness_InputEvents :
    (let s := input23 .qualifying 254 0
     Works s ∧ s.ring.lock = .locked ∧ ((activeBank s).inputs[23].slot).isSome = true ∧ s.inputs[23].state = .qualifying ∧
       (activeBank s).inputs[23].admitCount ≤ s.inputs[23].qualify + 1) ∧
    (let s := input23 .admitted 0 0
     Works s ∧ s.inputs[23].state = .admitted ∧ (activeBank s).inputs[23].dropLimit ≤ s.inputs[23].invalidRun) ∧
    (let s : State := { input23 .absent 0 0 with
       bankA := { silenceBank with inputs := setAt silenceBank.inputs 23 ⟨some 127, 0, 1, 0⟩ } }
     s.inputs[23].state = .absent ∧ (activeBank s).inputs[23].admitCount ≤ 1) :=
  ⟨⟨⟨rfl, rfl⟩, by decide +kernel⟩, ⟨⟨rfl, rfl⟩, by decide +kernel⟩, by decide +kernel⟩

theorem witness_MeasurementEvents :
    (let s : State := { locked with gen := ⟨true, .noise, 31, 0, 1, false, 1, none⟩ }
     Works s ∧ s.gen.running = true ∧ s.gen.remaining = 1) ∧
    (let s : State := { locked with gen := ⟨true, .impulse, 31, 0, 0, false, 1, none⟩ }
     Works s ∧ s.gen.running = true ∧ s.gen.remaining = 0) ∧
    (let s : State := { locked with capture := { locked.capture with state := .armed, trigger := .withGenerator, triggered := true } }
     Works s ∧ s.capture.state = .armed ∧ (s.capture.trigger ≠ .withGenerator ∨ s.capture.triggered = true)) ∧
    (let s : State := { locked with capture := { locked.capture with state := .running, wanted := 4096, captured := 4095 } }
     Works s ∧ s.capture.state = .running ∧ s.capture.wanted = s.capture.captured + 1 ∧ Cells.wf 0 s.capture.words = true) :=
  ⟨⟨⟨rfl, rfl⟩, rfl, rfl⟩, ⟨⟨rfl, rfl⟩, rfl, rfl⟩, ⟨⟨rfl, rfl⟩, rfl, .inr rfl⟩, ⟨rfl, rfl⟩, rfl, rfl, rfl⟩

/-- Output 31 of `bound` with a last peak and a guard. -/
def guarded (peak : Nat) (g : Guard) : State := { bound with outputs := setAt bound.outputs 31 ⟨0, 0, peak, g, 0⟩ }

def defaultProfile : ProfileRec := ⟨48, 5938687, 8, 48, 384, 375, 75⟩

theorem witness_GuardAndBackoffEvents :
    (let s := guarded 5938687 ⟨.ducked, 336, 7, 375, 0⟩
     Works s ∧ profileOf (activeBank s) 31 = some defaultProfile ∧ defaultProfile.sustain ≤ sustainAfter defaultProfile s.outputs[31] ∧
       defaultProfile.maximum ≤ s.outputs[31].guard.g + defaultProfile.duck) ∧
    (let s := guarded 5938686 ⟨.ducked, 384, 7, 1, 0⟩
     Works s ∧ sustainAfter defaultProfile s.outputs[31] < defaultProfile.sustain ∧ s.outputs[31].guard.state = .ducked ∧
       s.outputs[31].guard.hold ≤ 1) ∧
    (let s := guarded 0 ⟨.recovering, 1, 0, 0, 1⟩
     Works s ∧ sustainAfter defaultProfile s.outputs[31] < defaultProfile.sustain ∧ s.outputs[31].guard.state = .recovering ∧
       s.outputs[31].guard.recovery ≤ 1 ∧ s.outputs[31].guard.g ≤ 1) ∧
    (let s : State := { locked with backoff := ⟨1, 0, 1⟩ }
     Works s ∧ s.backoff.hold = 0 ∧ 0 < s.backoff.level ∧ s.backoff.interval ≤ 1 ∧ ∀ m : Fin 32, s.outputs[m].guard.state ≠ .ducked) :=
  ⟨⟨⟨rfl, rfl⟩, by decide +kernel⟩, ⟨⟨rfl, rfl⟩, by decide +kernel⟩, ⟨⟨rfl, rfl⟩, by decide +kernel⟩, ⟨rfl, rfl⟩, by decide +kernel⟩

/-- Under the engine reason an entry of the pending bank waits before one of the active bank. -/
theorem witness_DecayEvents :
    (Works waiting ∧ engineReason waiting = false ∧ waiting.decay.current = none ∧ waiting.decay.queue = [] ++ (.b, 3) :: []) ∧
    (let s : State := { inEngine .scheduled (.commit .cut) (some 1001) with decay := ⟨[(.b, 3), (.a, 15)], none⟩ }
     Works s ∧ engineReason s = true ∧ pendingName s = .b ∧ s.decay.queue = [(.b, 3)] ++ (.a, 15) :: [] ∧
       BankName.a ≠ pendingName s) ∧
    (let s : State := { inEngine .clearing .reset none with decay := ⟨[(.b, 3)], none⟩ }
     s.decay.current = none ∧ ∀ e ∈ s.decay.queue, engineReason s = true ∧ e.1 = pendingName s) ∧
    (let s : State := { locked with decay := ⟨[], some ⟨.b, 15, 65536, 100⟩⟩ }
     Works s ∧ engineReason s = false ∧ s.decay.current = some ⟨.b, 15, 65536, 100⟩) ∧
    (let s : State := { inEngine .fadeOut .reset none with decay := ⟨[], some ⟨.b, 15, 65536, 100⟩⟩ }
     ∀ e : DecayEntry, s.decay.current = some e → engineReason s = true ∧ e.bank = pendingName s) :=
  ⟨⟨⟨rfl, rfl⟩, by decide, rfl, rfl⟩, ⟨⟨rfl, rfl⟩, by decide, by decide, rfl, by decide⟩, ⟨rfl, by decide⟩,
    ⟨⟨rfl, rfl⟩, by decide, rfl⟩, fun e h => ⟨by decide, by
      simp only [Option.some.injEq] at h
      rw [← h]
      decide⟩⟩

theorem compatible_self (b : Bank) : compatible b b = true := by simp [compatible]

theorem witness_CommitExecutesAndEnds :
    (let s := inEngine .scheduled (.commit .auto) (some 1001)
     Works s ∧ s.engine.state = .scheduled ∧ s.engine.operation = .commit .auto ∧ compatible s.bankA s.bankB = true) ∧
    (let s := inEngine .scheduled (.commit .cut) (some 1001)
     Works s ∧ s.engine.state = .scheduled ∧ s.engine.operation = .commit .cut ∧
       ¬ (CommitMode.cut = .auto ∧ compatible s.bankA s.bankB = true)) ∧
    (let s := inEngine .fadeOut (.commit .cut) none
     Works s ∧ s.engine.state = .fadeOut ∧ (∀ m : Fin 32, s.outputs[m].current = 1536) ∧ s.engine.quiet = 2) ∧
    (let s := inEngine .fadeIn (.commit .cut) none
     Works s ∧ s.engine.state = .fadeIn ∧ (∀ m : Fin 32, s.outputs[m].current = outputTarget s m) ∧
       ∃ mode, s.engine.operation = .commit mode) :=
  ⟨⟨⟨rfl, rfl⟩, rfl, rfl, compatible_self silenceBank⟩, ⟨⟨rfl, rfl⟩, rfl, rfl, by simp⟩,
    ⟨⟨rfl, rfl⟩, rfl, by decide +kernel, rfl⟩, ⟨rfl, rfl⟩, rfl, by decide +kernel, _, rfl⟩

/-- A recall of the silence bank at its last block. -/
def recalling (st : StoreState) (suspended : Option (Fin 16 × Nat)) : State :=
  { locked with store := { locked.store with
      state := st, sector := some 15, count := 1, image := encodeBank silenceBank, suspended := suspended } }

theorem witness_ClearingCompletesWithInstall :
    (let s : State := { inEngine .clearing .reset none with reverb := { locked.reverb with clearing := true, clearCount := 63 } }
     Works s ∧ s.reverb.clearing = true ∧ s.reverb.clearCount = 63 ∧ s.engine.state = .clearing ∧ s.engine.operation = .reset ∧
       ¬ (recallReason s = true ∧ s.store.count = 0)) ∧
    (let r := recalling .eraseSuspended (some (3, 299))
     let s : State := { r with
       engine := ⟨.clearing, .commit .cut, none, false, 2⟩, reverb := { locked.reverb with clearing := true, clearCount := 63 }
       store := { r.store with count := 0, startUp := true } }
     Works s ∧ s.reverb.clearing = true ∧ s.reverb.clearCount = 63 ∧ s.engine.state = .clearing ∧ recallReason s = true ∧
       s.store.count = 0 ∧ s.store.sector = some 15 ∧ silenceBank.Legal ∧ s.store.image = encodeBank silenceBank ∧
       (∀ k : Fin 8, s.store.amendments[k].inUse = false) ∧ s.store.suspended = some (3, 299) ∧ s.store.startUp = true) ∧
    (let r := recalling .eraseSuspended (some (3, 299))
     let s : State := { r with
       engine := ⟨.clearing, .reset, none, false, 2⟩, reverb := { locked.reverb with clearing := true, clearCount := 63 }
       store := { r.store with count := 0 }, ring := { locked.ring with lock := .unlocked, gap := 2 } }
     Works s ∧ s.reverb.clearing = true ∧ s.reverb.clearCount = 63 ∧ s.engine.state = .clearing ∧ s.ring.lock ≠ .locked ∧
       s.ring.gap < 3 ∧ recallReason s = true ∧ s.store.count = 0 ∧ s.store.sector = some 15) :=
  ⟨⟨⟨rfl, rfl⟩, rfl, rfl, rfl, rfl, by decide⟩, ⟨⟨rfl, rfl⟩, rfl, rfl, rfl, by decide, rfl, rfl, silence_legal, rfl,
    fun k => by simp [recalling, locked, State.reset, defaultAmendment], rfl, rfl⟩,
    ⟨rfl, rfl⟩, rfl, rfl, rfl, by decide, by decide, by decide, rfl, rfl⟩

/-- R164: an erase that a held recall resumes is not counted at a boundary of the same frame period. -/
theorem test_resumed_erase_waits :
    (let r := recalling .eraseSuspended (some (3, 299))
     let s : State := { r with engine := ⟨.fadeIn, .reset, none, false, 2⟩, store := { r.store with count := 0 } }
     let t := storeBoundary (releaseHeldRecall s)
     (t.store.state, t.store.sector, t.store.count)) = (.erasing, some 3, 299) := by decide +kernel

theorem witness_StoreOperationsEnd :
    (let s := inStore .erasing (some 15) 1
     Works s ∧ s.store.count ≤ 1 ∧ s.store.state = .erasing ∧ s.store.sector = some 15) ∧
    (let s := inStore .writing (some 0) 1
     Works s ∧ s.store.count ≤ 1 ∧ s.store.state = .writing ∧ s.store.sector = some 0) ∧
    (let s : State := { locked with store := { locked.store with state := .updating, count := 1, newRecord := some defaultRecord } }
     Works s ∧ s.store.count ≤ 1 ∧ s.store.state = .updating ∧ s.store.newRecord = some defaultRecord) :=
  ⟨⟨⟨rfl, rfl⟩, by decide, rfl, rfl⟩, ⟨⟨rfl, rfl⟩, by decide, rfl, rfl⟩, ⟨rfl, rfl⟩, by decide, rfl, rfl⟩

theorem witness_RecallRestoresTheStoredBank :
    (let s := recalling .recalling none
     Works s ∧ s.store.count ≤ 1 ∧ s.store.sector = some 15 ∧ s.store.startUp = false ∧ silenceBank.Legal ∧
       s.store.image = encodeBank silenceBank ∧ (∀ k : Fin 8, s.store.amendments[k].inUse = false) ∧
       (s.store.state = .recalling ∧ s.store.suspended = none) ∧ engineReason s = false) ∧
    (let s := recalling .eraseSuspended (some (3, 299))
     s.store.state = .eraseSuspended ∧ s.store.suspended.isSome = true ∧ s.store.suspended = some (3, 299)) ∧
    engineReason { recalling .recalling none with engine := ⟨.clearing, .reset, none, false, 2⟩ } = true :=
  ⟨⟨⟨rfl, rfl⟩, by decide, rfl, rfl, silence_legal, rfl,
      fun k => by simp [recalling, locked, State.reset, defaultAmendment], ⟨rfl, rfl⟩, by decide⟩, ⟨rfl, rfl, rfl⟩, by decide⟩

/-- An amendment that changes the length of line 15 for every sector. -/
def longer : Amendment := ⟨true, none, .lines, 15, 1, 64⟩

theorem witness_RecallAmendsAndStartsUp :
    let r := recalling .recalling none
    let s : State := { r with store := { r.store with amendments := setAt r.store.amendments 7 longer, startUp := true } }
    Works s ∧ s.store.count ≤ 1 ∧ s.store.sector = some 15 ∧ silenceBank.Legal ∧ s.store.image = encodeBank silenceBank ∧
      (∀ k : Fin 8, s.store.amendments[k].Legal) ∧ engineReason s = false ∧ s.store.state = .recalling ∧
      s.store.suspended = none ∧ s.store.startUp = true ∧ s.engine.state = .steady ∧ s.decay.queue = [] ∧
      s.decay.current = none ∧
      (let q := recalling .eraseSuspended (some (3, 299))
       q.store.state = .eraseSuspended ∧ q.store.suspended.isSome = true ∧ q.store.sector = some 15) :=
  ⟨⟨rfl, rfl⟩, by decide, rfl, silence_legal, rfl, by simp only [Amendment.Legal]; decide +kernel, by decide, rfl, rfl, rfl,
    rfl, rfl, rfl, rfl, rfl, rfl⟩

theorem witness_PointerRequests : Heard node0 locked ∧ pointer? 1 14 16 1 = some ⟨.pending, .sectors, 16, 1⟩ ∧
    pointer? 1 14 17 1 = none ∧ pointer? 1 15 0 1 = none := ⟨heard_locked, by decide⟩

theorem witness_StatusReturnsTheRecord :
    let s : State := { inEngine .scheduled (.commit .cut) (some 16777215) with
      backoff := ⟨480, 0, 0⟩, decay := ⟨[(.b, 3)], none⟩, capture := { locked.capture with captured := 4096 } }
    Heard node0 s ∧ RingLegal s.ring ∧ s.backoff.level ≤ 480 ∧ RecomputesLegal s.decay ∧ NoticesLegal s.notices.queue ∧
      s.capture.captured ≤ 4096 ∧ ∀ f, s.engine.scheduled = some f → f < 16777216 :=
  ⟨⟨rfl, rfl, rfl, .inl rfl⟩, ⟨by decide, by decide, by decide, by decide, by decide⟩, by decide, by simp [RecomputesLegal],
    ⟨by simp [inEngine, locked, State.reset], fun e he => by simp [inEngine, locked, State.reset] at he⟩, by decide,
    fun f hf => by simp only [inEngine, Option.some.injEq] at hf; omega⟩

/-- For the last entry of each bank table, the pointer on it, the bank open, and a legal record carried. -/
theorem witness_PutWritesThePendingBank :
    (Heard node0 locked ∧ pendingLocked locked = false) ∧
    (let s := pointed .pending (.bank .inputs) 23
     s.pointer.index = (23 : Fin 24).val ∧ InputRec.Legal ⟨none, 1536, 255, 254⟩ ∧
       payload12 (encodeInput ⟨none, 1536, 255, 254⟩) = payload12 [0x060000FF, 0x00FE00FF]) ∧
    InjectionRec.Legal ⟨some 23, 15, 1536⟩ ∧ LineRec.Legal ⟨262143, 65536, .minus, 20000, 0, false⟩ ∧
    TapRec.Legal ⟨15, 65536, .minus, 1536⟩ ∧ OutputRec.Legal ⟨some 127, 511, 64, 1536, some 3⟩ ∧
    ProfileRec.Legal ⟨1535, 128, 64, 192, 768, 4095, 4095⟩ ∧
    GlobalsRec.Legal ⟨.four, 255, 255, 96, 480, 4095, 4095, List.replicate 16 126⟩ ∧
    ((.b, 3) ∈ waiting.decay.queue ∧ ¬ (.b, 3) ∈ locked.decay.queue) := by
  refine ⟨⟨heard_locked, by decide⟩, ⟨rfl, by simp [InputRec.Legal], by decide⟩, by simp [InjectionRec.Legal],
    by simp [LineRec.Legal, Config.poolWords, lengthOk], by simp [TapRec.Legal], by simp [OutputRec.Legal], ?_, ?_, ?_⟩
  · simp only [ProfileRec.Legal]
    decide +kernel
  · simp only [GlobalsRec.Legal]
    decide +kernel
  · decide +kernel

/-- The worked live write of O3 and O4: equal structure, and a slot that differs. -/
theorem witness_PutTunesTheActiveBank :
    let b := activeBank bound
    Heard node0 (pointed .active (.bank .outputs) 31) ∧ (pointed .active (.bank .outputs) 31).pointer.view = .active ∧
      (OutputRec.Legal ⟨some 127, 0, 0, 250, none⟩ ∧
        ((some 127 : Option (Fin 128)), 0, 0) = (b.outputs[31].slot, b.outputs[31].firstTap, b.outputs[31].tapCount)) ∧
      ((some 126 : Option (Fin 128)), 0, 0) ≠ (b.outputs[31].slot, b.outputs[31].firstTap, b.outputs[31].tapCount) ∧
      (some 0 : Option (Fin 128)) ≠ b.inputs[23].slot ∧ (none, (1 : Fin 16)) ≠ (b.injections[127].input, b.injections[127].line) ∧
      (0, 64, Sign.plus) ≠ (b.lines[15].base, b.lines[15].length, b.lines[15].sign) ∧
      ((0 : Fin 16), 1, Sign.minus) ≠ (b.taps[511].line, b.taps[511].offset, b.taps[511].sign) ∧
      MatrixOrder.four ≠ b.globals.order ∧
      (none : Option (Fin 128)) = b.inputs[23].slot ∧ (none, (0 : Fin 16)) = (b.injections[127].input, b.injections[127].line) ∧
      (0, 0, Sign.plus) = (b.lines[15].base, b.lines[15].length, b.lines[15].sign) ∧
      ((0 : Fin 16), 1, Sign.plus) = (b.taps[511].line, b.taps[511].offset, b.taps[511].sign) ∧
      MatrixOrder.sixteen = b.globals.order :=
  ⟨⟨rfl, rfl, rfl, .inl rfl⟩, rfl, by simp only [OutputRec.Legal]; decide +kernel, by decide +kernel⟩

/-- Records of OUTPUTS through the ACTIVE view: a slot of 128; a tap count of 65, as carried; and a trim of 1,537 with
the structure as it stands. -/
theorem witness_PutTunesTheActiveBank_carried :
    let b := activeBank bound
    31 < BankTable.outputs.size ∧
    (∃ r ∈ fieldRules .outputs, ¬ r.accepts (r.carried [0x80000000, 0])) ∧
    ((∀ r ∈ fieldRules .outputs, r.accepts (r.carried [0x7F410000, 0])) ∧
      ∃ k ∈ structuralFields .outputs, ∃ r, (fieldRules .outputs)[k]? = some r ∧
        r.carried [0x7F410000, 0] ≠ b.fieldAt .outputs 31 k) ∧
    ((∀ r ∈ fieldRules .outputs, r.accepts (r.carried [0x7F000000, 0x00030601])) ∧
      (¬ ∃ k ∈ structuralFields .outputs, ∃ r, (fieldRules .outputs)[k]? = some r ∧
        r.carried [0x7F000000, 0x00030601] ≠ b.fieldAt .outputs 31 k) ∧
      RecordClamped .outputs [0x7F000000, 0x00030601]) := by
  refine ⟨by decide, ⟨namingField 0 24 128, by simp [fieldRules], ?_⟩, ⟨?_, 2, by simp [structuralFields],
    clampedField 0 16 8 0 64, rfl, ?_⟩, ?_, ?_, .inl ⟨3, clampedField 1 0 16 0 1536, rfl, ?_⟩⟩
  · simp only [namingField, strictField, FieldRule.carried]
    decide
  · simp only [fieldRules, List.forall_mem_cons, List.not_mem_nil, false_implies, implies_true, namingField, strictField,
      clampedField, FieldRule.carried]
    decide
  · simp only [clampedField, FieldRule.carried]
    decide +kernel
  · simp only [fieldRules, List.forall_mem_cons, List.not_mem_nil, false_implies, implies_true, namingField, strictField,
      clampedField, FieldRule.carried]
    decide
  · rintro ⟨k, hk, r, hr, hne⟩
    simp only [structuralFields, List.mem_cons, List.not_mem_nil, or_false] at hk
    rcases hk with rfl | rfl | rfl <;> simp only [fieldRules, List.getElem?_cons_zero, List.getElem?_cons_succ,
      Option.some.injEq] at hr <;> subst hr <;> revert hne <;>
      simp only [namingField, strictField, clampedField, FieldRule.carried] <;> decide +kernel
  · simp only [writtenField, FieldRule.treated, clampedField, FieldRule.carried]
    decide

theorem witness_PutRecordByRecord :
    (Heard node0 locked ∧ 1 ≤ 4 ∧ 4 ≤ 4 ∧ 4 * (TableName.bank .profiles).words ≤ 12) ∧
    (let s := pointed .pending (.bank .taps) 510
     (1 ≤ 3 ∧ (3 + 1) * s.pointer.table.words ≤ 12 ∧ node0.target = s.node.number) ∧
     ∃ u a, exec (.put node0 1 fourTaps) s = .next u ∧ u.out.answer = some a ∧ a.result = .done ∧
       ∃ v b, exec (.put node0 3 (fourTaps.drop s.pointer.table.words)) u = .next v ∧ v.out.answer = some b ∧
         b.result = .range ∧ b.count = 1) ∧
    (let s : State := { inStore .recalling (some 3) 12 with pointer := ⟨.pending, .bank .profiles, 0, 1⟩ }
     s.pointer.view = .pending ∧ pendingLocked s = true) ∧
    ((pointed .pending (.bank .profiles) 4).pointer.index = (TableName.bank .profiles).size ∧ pendingLocked locked = false) ∧
    ((pointed .active .sectors 16).pointer.table ∈ [TableName.inputState, .lineState, .outputState, .counters, .capture, .sectors] ∧
      16 < TableName.sectors.size ∧ 1 * TableName.sectors.words ≤ 12) ∧
    ((pointed .active .sectors 17).pointer.index = TableName.sectors.size ∧
      reply (after (execPut node0 1 fourTaps (pointed .active .sectors 17))) = some (.range, 0, []) ∧
      reply (after (execPut node0 1 fourTaps (pointed .active .sectors 16))) = some (.refused, 0, [])) := by
  refine ⟨⟨heard_locked, by decide⟩, ⟨by decide, _, _, rfl, rfl, ?_, _, _, rfl, rfl, ?_⟩, by decide +kernel, by decide +kernel,
    by decide +kernel, by decide +kernel⟩
  · decide +kernel
  · decide +kernel

theorem witness_TakeReads :
    Heard node0 (pointed .active .counters 75) ∧ 75 < 76 ∧
    ([(TableName.amendments, 7), (.node, 0), (.inputState, 23), (.lineState, 15), (.outputState, 31), (.outputState, 32),
      (.sectors, 15), (.sectors, 16)].all (fun e => decide (e.2 < e.1.size)) = true) ∧
    (511 < BankTable.taps.size) ∧
    (let s : State := { pointed .active .capture 4095 with capture := { locked.capture with state := .done, captured := 4096 } }
     s.pointer.index < 4096 ∧ s.capture.state = .done ∧ s.pointer.index < s.capture.captured) ∧
    (let s : State := { pointed .active .capture 0 with capture := { locked.capture with state := .armed } }
     s.pointer.index < 4096 ∧ s.capture.state = .armed) ∧
    (let s := pointed .active .capture 0
     s.capture.state = .idle ∧ s.capture.captured ≤ s.pointer.index) ∧
    (pointed .active .capture 4096).pointer.index = TableName.capture.size :=
  ⟨⟨rfl, rfl, rfl, .inl rfl⟩, by decide, by decide, by decide, ⟨by decide, rfl, by decide⟩, ⟨by decide, rfl⟩, ⟨rfl, by decide⟩, rfl⟩

theorem witness_MalformedCellsAreCounted :
    Heard node0 locked ∧ (Instr.badCell node0 15).request? = some (node0, .badCell 15) ∧
      (Instr.take node0 5).request? = some (node0, .take 5) ∧ 4 < 5 ∧
      (Instr.take node0 4).request? = some (node0, .take 4) ∧ 12 < 4 * (pointed .pending (.bank .lines) 0).pointer.table.words ∧
      (let s : State := { locked with node := noticing, notices := ⟨Vector.replicate 15 false, [⟨.clip, 6, 3, .none⟩]⟩ }
       Heard node0 s ∧ s.node.enables.pulse[8] = true ∧
         (after (execBadCell node0 15 s)).notices.queue = [⟨.clip, 6, 3, .none⟩, ⟨.badCell, 1000, 1, .none⟩]) :=
  ⟨heard_locked, rfl, rfl, by decide, rfl, by decide, ⟨rfl, rfl, rfl, .inl rfl⟩, rfl, by decide +kernel⟩

/-- The silence bank passes the set check: no entry of it uses anything. -/
theorem silence_unused (j : Fin 16) : lineUsed silenceBank j = false := by
  rw [lineUsed, silenceBank]
  simp

theorem silence_lines (j : Fin 16) : lineFails silenceBank j = false := by
  have h : ∀ l : List (Fin 16), l.any (fun _ => false) = false := fun l => by induction l <;> simp_all
  simp only [lineFails, lineOutside, lineOverlaps, groupMixed, silence_unused, Bool.false_and, Bool.or_false, Bool.and_false, h]

theorem silence_injections (n : Fin 128) : injectionFails silenceBank n = false := by
  simp [injectionFails, silenceBank]

theorem silence_outputs (m : Fin 32) : outputFails silenceBank m = false := by
  simp [outputFails, silenceBank, runsOverlap]

theorem silence_taps (k : Fin 512) : tapFails silenceBank k = false := by
  have h : (entries 32).any (fun m => inRun silenceBank.outputs[m] k.val) = false := by
    rw [List.any_eq_false]
    intro m _
    simp only [silenceBank, Fin.getElem_fin, Vector.getElem_replicate, inRun, Bool.and_eq_true, decide_eq_true_eq]
    omega
  rw [tapFails, h, Bool.false_and]

theorem no_failure {n : Nat} (code : Nat) (f : Fin n → Bool) (hf : ∀ i, f i = false) : firstFailure code f = none := by
  simp only [firstFailure, Option.map_eq_none_iff, List.find?_eq_none]
  intro i _
  simp [hf i]

theorem silence_passes : setCheck silenceBank = none := by
  rw [setCheck, no_failure 2 _ silence_lines, no_failure 1 _ silence_injections, no_failure 4 _ silence_outputs,
    no_failure 3 _ silence_taps]
  rfl

/-- Four used lines of one feedback group, one injection into line 0 and one tap of it. -/
def smallBank : Bank :=
  { silenceBank with
    inputs := setAt silenceBank.inputs 0 ⟨some 0, 0, 48, 4⟩
    injections := setAt silenceBank.injections 127 ⟨some 0, 0, 0⟩
    lines := Vector.ofFn (fun j => if j.val < 4 then ⟨64 * j.val, 64, .minus, 2000, 1, false⟩ else ⟨0, 0, .plus, 2000, 1536, false⟩)
    taps := setAt silenceBank.taps 511 ⟨3, 64, .minus, 0⟩
    outputs := setAt silenceBank.outputs 31 ⟨some 127, 511, 1, 0, some 3⟩
    globals := { silenceBank.globals with order := .four } }

theorem small_passes : setCheck smallBank = none := by decide +kernel

/-- A node that plays the small bank, with input 0 admitted and one word in the pool. -/
def playing (number : Nat) : State :=
  { locked with
    started := true, bankA := smallBank, ring := { locked.ring with frameNumber := number }
    inputs := setAt locked.inputs 0 ⟨.admitted, 0, 0, 0, 0⟩, reverb := { locked.reverb with pool := [(0, 5)] }
    gen := ⟨true, .noise, 31, 96, 2, true, 1, none⟩ }

theorem playing_passes (number : Nat) : ScenesPass (playing number) :=
  ⟨small_passes,
    show ∀ j : Fin 16, smallBank.lines[j].length ≠ 0 → State.reset.reverb.position[j] < smallBank.lines[j].length by decide +kernel,
    fun h => by simp [playing, locked, State.reset, engineReason] at h⟩

theorem witness_ScenesStayChecked : ∃ s t : State, TablesLegal s ∧ ScenesPass s ∧ step s = .next t :=
  ⟨{ locked with pending := [.commit node0 .cut .now] }, _, ⟨silence_legal, silence_legal, fun k => by
    simp [locked, State.reset, defaultAmendment, Amendment.Legal, BankTable.size, BankTable.fields, fieldValue, mustBe]⟩,
    ⟨silence_passes, fun j h => absurd h (by simp [activeBank, bankOf, locked, State.reset, silenceBank]), fun h => by
      simp [locked, State.reset, engineReason] at h⟩, rfl⟩

theorem playing_memories (number : Nat) : MemoriesLegal (playing number) :=
  ⟨by simp [playing, Cells.wf], by simp [playing, Config.poolWords], by simp [playing, locked, State.reset, Cells.wf],
    fun n => by simp [playing, locked, State.reset, Cells.wf], by simp [playing, locked, State.reset, Cells.wf]⟩

/-- An arrival in sequence; and of the same number a slip, a flagged and a bad frame, a frame period of the oscillator and
one of a clearing, each with what distinguishes it. -/
theorem witness_FramePeriodComputes :
    PlainPeriod (.arrival (frameWith 1001 2)) (some (frameWith 1001 2)) (some (frameWith 1001 2)) 1001 (playing 1000) ∧
      1001 % 64 ≠ 0 ∧ MemoriesLegal (playing 1000) ∧
      ScenesPass (playing 1000) ∧ (activeBank (playing 1000)).inputs[0].slot.isSome = true ∧
      (activeBank (playing 1000)).lines[0].length ≠ 0 ∧ (activeBank (playing 1000)).lines[15].length = 0 ∧
      ((playing 1000).gen.running = true ∧ 2 ≤ (playing 1000).gen.remaining ∧ (playing 1000).gen.next = none) ∧
      expectedOutput (playing 1000) 31 = 0 ∧ expectedGenerator (playing 1000) 31 = 1988254 ∧ ¬ CaptureRuns 1001 (playing 1000) :=
  ⟨⟨⟨rfl, rfl⟩, .inl ⟨_, rfl, rfl, rfl, .inl ⟨good_answer, rfl, by decide +kernel, fun h => absurd h (by decide +kernel),
      fun _ => by decide⟩⟩, fun h => absurd h (by decide), by decide, by decide⟩, by decide, playing_memories _, playing_passes _,
    by decide +kernel, by decide +kernel, by decide +kernel, by decide +kernel, by decide +kernel, by decide +kernel, by
      simp [CaptureRuns, playing, locked, State.reset]⟩

theorem witness_FramePeriodComputes_sources :
    PlainPeriod (.arrival (frameWith 1001 2)) (some (frameWith 1001 2)) (some (frameWith 1001 2)) 1001 (playing 2000) ∧
    Slipped 1001 (playing 2000) ∧
    PlainPeriod (.arrival (frame 1001 true 0)) (some (frame 1001 true 0)) none 1001 (playing 1000) ∧
    PlainPeriod (.arrival (frame 1001 false 1)) (some (frame 1001 false 1)) none 1001 (playing 1000) ∧
    (let s : State := { playing 1000 with ring := { (playing 1000).ring with lock := .unlocked, gap := 2 } }
     PlainPeriod .oscillatorFramePeriod none none 1001 s) ∧
    (let s : State := { playing 1000 with
       engine := ⟨.clearing, .reset, none, false, 2⟩, reverb := { (playing 1000).reverb with clearing := true, clearCount := 62 } }
     PlainPeriod (.arrival (frameWith 1001 2)) (some (frameWith 1001 2)) (some (frameWith 1001 2)) 1001 s) ∧
    (let s : State := { playing 1000 with
       engine := ⟨.scheduled, .commit .cut, some 1002, false, 2⟩
       capture := ⟨.armed, .line 0, .atFrame, some 1001, 1, 0, [], false⟩ }
     PlainPeriod (.arrival (frameWith 1001 2)) (some (frameWith 1001 2)) (some (frameWith 1001 2)) 1001 s ∧
       CaptureRuns 1001 s ∧ s.capture.wanted ≤ s.capture.captured + 1 ∧ expectedPoint none none s s.capture.point = 5) := by
  refine ⟨⟨⟨rfl, rfl⟩, .inl ⟨_, rfl, rfl, rfl, .inl ⟨good_answer, rfl, by decide +kernel, fun h => absurd h (by decide +kernel), fun _ => by decide⟩⟩,
      fun h => absurd h (by decide), by decide, by decide⟩, ⟨rfl, by decide⟩,
    ⟨⟨rfl, rfl⟩, .inl ⟨_, rfl, rfl, rfl, .inr (.inl ⟨flagged_1001, rfl, by decide⟩)⟩, fun h => absurd h (by decide), by decide, by decide⟩,
    ⟨⟨rfl, rfl⟩, .inl ⟨_, rfl, rfl, rfl, .inr (.inr ⟨bad_1001, rfl, by decide, by decide⟩)⟩, fun h => absurd h (by decide), by decide, by decide⟩,
    ⟨⟨rfl, rfl⟩, .inr ⟨rfl, rfl, rfl, by decide, fun _ => by decide, by decide⟩, fun h => absurd h (by decide), by decide, by decide⟩,
    ⟨⟨rfl, rfl⟩, .inl ⟨_, rfl, rfl, rfl, .inl ⟨good_answer, rfl, by decide +kernel, fun h => absurd h (by decide +kernel), fun _ => by decide⟩⟩,
      fun h => absurd h (by decide), by decide, by decide⟩,
    ⟨⟨rfl, rfl⟩, .inl ⟨_, rfl, rfl, rfl, .inl ⟨good_answer, rfl, by decide +kernel, fun h => absurd h (by decide +kernel), fun _ => by decide⟩⟩,
      fun _ frame hf => ?_, by decide, by decide⟩, .inr ⟨rfl, .inr (.inr ⟨rfl, 1001, rfl, .inl (by decide)⟩)⟩, by decide,
    by decide +kernel⟩
  simp only [Option.some.injEq] at hf
  subst hf
  rintro (h | ⟨⟨-, h⟩, -⟩)
  · exact absurd h (by decide)
  · exact absurd h (by decide)

/-- The ordinary frame, whose IDLE cell only takes a notice out, and a REQUEST to another node. -/
theorem witness_FramePeriodComputes_cells :
    (PlainPeriod (.arrival (frame 1001 false 0)) (some (frame 1001 false 0)) (some (frame 1001 false 0)) 1001 (playing 1000) ∧
      OffersIdle (some (frame 1001 false 0))) ∧
    (let f := frameWith 1001 0x2A000551
     PlainPeriod (.arrival f) (some f) (some f) 1001 (playing 1000)) :=
  ⟨⟨⟨⟨rfl, rfl⟩, .inl ⟨_, rfl, rfl, rfl, .inl ⟨good_1001, rfl, by decide +kernel, fun h => absurd h (by decide +kernel),
      fun _ => by decide⟩⟩, fun h => absurd h (by decide), by decide, by decide⟩, _, rfl, by decide +kernel⟩,
    ⟨rfl, rfl⟩, .inl ⟨_, rfl, rfl, rfl, .inl ⟨good_status5, rfl, by decide +kernel, fun _ => by decide +kernel,
      fun _ => by decide⟩⟩, fun h => absurd h (by decide), by decide, by decide⟩

theorem witness_BlockBoundaryWork :
    (let s : State := { playing 1023 with
       store := { locked.store with state := .writing, sector := some 0, count := 2 }
       outputs := setAt locked.outputs 31 ⟨0, 5938687, 0, ⟨.ducked, 336, 7, 375, 0⟩, 0⟩ }
     PlainPeriod (.arrival (frameWith 1024 2)) (some (frameWith 1024 2)) (some (frameWith 1024 2)) 1024 s ∧ 1024 % 64 = 0 ∧
       s.started = true ∧ s.decay.current = none ∧ 2 ≤ s.store.count ∧
       (∃ p, profileOf (activeBank s) 31 = some p ∧ p.sustain ≤ 7 + 1 ∧ p.maximum ≤ 336 + p.duck)) ∧
    (let s : State := { State.reset with engine := ⟨.fadeOut, .commit .cut, none, false, 2⟩ }
     PlainPeriod .oscillatorFramePeriod none none 0 s ∧ 0 % 64 = 0 ∧ s.marks.store = false ∧ s.decay.current = none ∧
       s.store.state = .idle ∧ (∀ m : Fin 32, s.outputs[m].current = 1536)) ∧
    (let s : State := { State.reset with engine := ⟨.fadeIn, .reset, none, true, 0⟩ }
     PlainPeriod .oscillatorFramePeriod none none 0 s ∧ ∀ m : Fin 32, s.outputs[m].current = expectedTarget s s m) := by
  refine ⟨⟨⟨⟨rfl, rfl⟩, .inl ⟨_, rfl, rfl, rfl, .inl ⟨good_boundary, rfl, by decide +kernel, fun h => absurd h (by decide +kernel),
      fun _ => by decide⟩⟩, fun h => absurd h (by decide), by decide, by decide⟩, by decide, rfl, rfl, by decide, defaultProfile, by decide +kernel⟩,
    ⟨⟨⟨rfl, rfl⟩, .inr ⟨rfl, rfl, rfl, by decide, by decide, by decide⟩, fun h => absurd h (by decide), by decide, by decide⟩, by decide, rfl, rfl,
      rfl, by decide +kernel⟩,
    ⟨⟨rfl, rfl⟩, .inr ⟨rfl, rfl, rfl, by decide, by decide, by decide⟩, fun h => absurd h (by decide), by decide, by decide⟩, by
      simp only [expectedTarget]; decide +kernel⟩

/-- A PROFILES record whose duck step and guard maximum are clamped, a LINES record of a forbidden length, a threshold of
0, and amendments of a computed field, of a length and of a name. -/
theorem witness_PutTreatsEveryField :
    (Heard node0 (pointed .pending (.bank .profiles) 3) ∧ pendingLocked (pointed .pending (.bank .profiles) 3) = false ∧
      3 < BankTable.profiles.size ∧ (∀ r ∈ fieldRules .profiles, r.accepts (r.carried [0, 0x00100300, 0]))) ∧
    (15 < BankTable.lines.size ∧ ∃ r ∈ fieldRules .lines, ¬ r.accepts (r.carried [0, 63, 0, 0])) ∧
    (let s := pointed .pending .node 0
     s.pointer.table = .node ∧ s.pointer.index = 0 ∧ ¬ (1 ≤ field 0 8 8 ∧ field 0 8 8 ≤ 15)) ∧
    (let s := pointed .pending .amendments 7
     s.pointer.table = .amendments ∧ s.pointer.index = (7 : Fin 8).val) ∧
    (16 ≤ field 0x0102FE01 8 8 ∧ field 0x0102FE01 8 8 ≠ 255) ∧
    (identityCode (none : Option (Fin 16)) = field 0x0402FF01 8 8 ∧ BankTable.lines.code = field 0x0402FF01 16 8 ∧
      15 < BankTable.lines.size ∧ field 0x0402FF01 24 8 = 4) ∧
    (∃ r, (fieldRules .lines)[1]? = some r ∧ ¬ r.accepts 63 ∧ r.accepts 64) ∧
    (BankTable.globals.code = field 0x0A06FF01 16 8 ∧ 0 < BankTable.globals.size ∧ 7 ≤ field 0x0A06FF01 24 8 ∧
      field 0x0A06FF01 24 8 ≤ 10) :=
  ⟨⟨⟨rfl, rfl, rfl, .inl rfl⟩, by decide, by decide, by simp [fieldRules, clampedField]⟩,
    ⟨by decide, strictField 1 0 32 (fun x => x = 0 ∨ 64 ≤ x ∧ x ≤ 65536), by simp [fieldRules],
      by simp only [strictField, FieldRule.carried]; decide⟩,
    ⟨rfl, rfl, by decide⟩, ⟨rfl, rfl⟩, by decide, by decide,
    ⟨_, rfl, by simp only [strictField]; decide, by simp only [strictField]; decide⟩, by decide⟩

theorem witness_CommitRequest :
    (Heard node0 locked ∧ locked.engine.state = .steady ∧ commitBusy locked = false ∧ setCheck (pendingBank locked) = none ∧
      compatible locked.bankA locked.bankB = true) ∧
    (1 ≤ distance 66535 locked.ring.frameNumber ∧ distance 66535 locked.ring.frameNumber ≤ 65535) ∧
    (¬ (1 ≤ distance 66536 locked.ring.frameNumber ∧ distance 66536 locked.ring.frameNumber ≤ 65535)) ∧
    (let b := { silenceBank with lines := setAt silenceBank.lines 15 ⟨262143, 64, .plus, 2000, 1536, false⟩ }
     setCheck b = some (2, 0)) ∧
    (waiting.decay.queue = [(pendingName waiting, 3)]) :=
  ⟨⟨heard_locked, rfl, by decide, silence_passes, compatible_self silenceBank⟩, by decide, by decide, by decide +kernel, rfl⟩

theorem witness_CancelTable :
    Heard node0 locked ∧ locked.engine.state = .steady ∧
    Heard node0 (inEngine .fadeOut (.commit .auto) none) ∧ (inEngine .fadeOut (.commit .auto) none).engine.operation = .commit .auto ∧
    Heard node0 (inEngine .fadeOut .reset none) ∧ (∀ mode, (inEngine .fadeOut .reset none).engine.operation ≠ .commit mode) :=
  ⟨heard_locked, rfl, ⟨rfl, rfl, rfl, .inl rfl⟩, rfl, ⟨rfl, rfl, rfl, .inl rfl⟩, fun _ => by simp [inEngine]⟩

theorem witness_CopyRequest : Heard node0 locked ∧ pendingLocked locked = false ∧ pendingLocked (inStore .writing (some 0) 90) = true :=
  ⟨heard_locked, by decide, by decide⟩

/-- Sector 15 VALID. -/
def valid15 : State := { locked with store := { locked.store with sectors := setAt locked.store.sectors 15 .valid } }

theorem witness_StoreRequests :
    (Heard node0 locked ∧ 16 ≤ 16 ∧ 254 ≠ 255) ∧ (inStore .updating none 375).store.state ≠ .idle ∧
    (locked.store.state = .idle ∧ locked.store.record.guarded[15] = false ∧ locked.store.sectors[15] = .empty ∧
      engineReason locked = false ∧ recomputing locked (pendingName locked) = false) ∧
    (let r : StartRecord := { locked.store.record with guarded := setAt locked.store.record.guarded 15 true }
     r ≠ locked.store.record ∧ r.guarded[15] = true) ∧
    recomputing waiting (pendingName waiting) = true ∧
    (valid15.store.sectors[15] = .valid ∧ valid15.store.state = .idle ∧ engineReason valid15 = false) ∧
    engineReason (inEngine .scheduled (.commit .cut) (some 1001)) = true ∧
    ((inStore .erasing (some 3) 300).store.state = .erasing ∧ (inStore .erasing (some 3) 300).store.sector ≠ some 15) ∧
    ¬ ((inStore .erasing (some 15) 300).store.state = .idle ∨
      (inStore .erasing (some 15) 300).store.state = .erasing ∧ (inStore .erasing (some 15) 300).store.sector ≠ some 15) :=
  ⟨⟨heard_locked, by decide⟩, by decide, by decide +kernel, by decide +kernel, by decide, by decide +kernel, by decide, by decide, by decide⟩

theorem witness_GuardMeasurementAndFlagRequests :
    (Heard node0 bound ∧ ((activeBank bound).outputs[31].slot).isSome = true ∧ bound.marks.early = false ∧
      bound.engine.state = .steady ∧ (activeBank bound).outputs[30].slot = none) ∧
    (inEngine .fadeIn .reset none).engine.state = .fadeIn ∧ (32 ≤ 254 ∧ 254 ≠ 255) ∧
    (let s : State := { locked with gen := ⟨true, .noise, 31, 0, 1, false, 1, none⟩ }
     s.gen.running = true) ∧ (locked.gen.running = false ∧ locked.gen.next = none) ∧
    (point? 3 127 = some (.slot 127) ∧ trigger? 2 = some .atFrame ∧ locked.capture.state = .idle) ∧
    (∀ k : Fin 15, Nat.testBit 0x8000 k.val = false) ∧ (∃ k : Fin 15, Nat.testBit 0x4000 k.val = true) ∧
    (let s : State := { locked with node := noticing, outputs := setAt locked.outputs 31 ⟨0, 0, 0, ⟨.recovering, 1, 0, 0, 5⟩, 0⟩ }
     Heard node0 s ∧ (∃ m : Fin 32, s.outputs[m].guard.state ≠ .watch) ∧ s.node.enables.fall[2] = true ∧
       (after (execGuardReset node0 255 s)).notices.queue = [⟨.guardActive, 1000, 1, .fall⟩]) :=
  ⟨⟨⟨rfl, rfl, rfl, .inl rfl⟩, by decide +kernel⟩, rfl, by decide, rfl, ⟨rfl, rfl⟩, by decide, by decide, ⟨14, by decide⟩,
    ⟨rfl, rfl, rfl, .inl rfl⟩, ⟨31, by decide +kernel⟩, rfl, by decide +kernel⟩

theorem witness_WarmReset :
    (Heard node0 locked ∧ node0.target = locked.node.number) ∧
    (let s := inEngine .clearing (.commit .cut) none
     Heard node0 s ∧ s.engine.state = .clearing ∧ ∃ mode, s.engine.operation = .commit mode) ∧
    locked.marks.missing = none ∧
    (let s : State := { input23 .admitted 0 0 with
       notices := ⟨Vector.replicate 15 true, [⟨.sceneBusy, 5, 200, .rise⟩, ⟨.clip, 6, 3, .none⟩]⟩
       node := noticing }
     Heard node0 s ∧ (after (execResetNode node0 s)).notices.queue =
       [⟨.inputMissing, 1000, 1, .rise⟩, ⟨.sceneBusy, 1000, 1, .rise⟩]) :=
  ⟨⟨heard_locked, rfl⟩, ⟨⟨rfl, rfl, rfl, .inl rfl⟩, rfl, _, rfl⟩, rfl, ⟨rfl, rfl, rfl, .inl rfl⟩, by decide +kernel⟩

end Sys2Proof.Tests
end

section
/-! The sound path: what every step keeps of the output units, the delay pool and the hand-off line. An invariant
that reads nothing else is kept by the step once it is kept by the few operations that write them (R9, R66, R95). -/

namespace Sys2Proof.Machine

/-! ### Operations beside the sound path -/

/-- Two states with the same output units, pool words and hand-off line. -/
structure SameSound (s t : State) : Prop where
  outputs : t.outputs = s.outputs
  pool    : t.reverb.pool = s.reverb.pool
  front   : t.ring.handFront = s.ring.handFront
  back    : t.ring.handBack = s.ring.handBack

theorem sameSound_withEdges (f : State → State) (s : State) : SameSound (f s) (withEdges f s) := by
  constructor <;> simp

theorem sameSound_edges (old new : State) : SameSound new (edges old new) := by
  constructor <;> simp

theorem sameSound_missingEdge (s : State) : SameSound s (missingEdge s) := by
  rw [missingEdge_frame]
  exact ⟨rfl, rfl, rfl, rfl⟩

theorem sameSound_decayTake (s : State) : SameSound s (decayTake s) := by
  rw [decayTake_frame]
  exact ⟨rfl, rfl, rfl, rfl⟩

theorem sameSound_decayCompletion (s : State) : SameSound s (decayCompletion s) := by
  rw [decayCompletion_frame]
  exact ⟨rfl, rfl, rfl, rfl⟩

theorem sameSound_decayBoundary (s : State) : SameSound s (decayBoundary s) := by
  rw [decayBoundary_frame]
  exact ⟨rfl, rfl, rfl, rfl⟩

theorem sameSound_backoffStep (s : State) : SameSound s (backoffStep s) := by
  rw [backoffStep_frame]
  exact ⟨rfl, rfl, rfl, rfl⟩

theorem sameSound_captureEnd (s : State) : SameSound s (captureEnd s) := by
  rw [captureEnd_frame]
  exact ⟨rfl, rfl, rfl, rfl⟩

theorem sameSound_captureStart (slip : Bool) (s : State) : SameSound s (captureStart slip s) := by
  rw [captureStart_frame]
  exact ⟨rfl, rfl, rfl, rfl⟩

theorem sameSound_captureWork (v : Sample) (s : State) : SameSound s (captureWork v s) := by
  rw [captureWork_frame]
  exact ⟨rfl, rfl, rfl, rfl⟩

theorem sameSound_captureLockLoss (s : State) : SameSound s (captureLockLoss s) := by
  rw [captureLockLoss_frame]
  exact ⟨rfl, rfl, rfl, rfl⟩

theorem sameSound_burstEnd (s : State) : SameSound s (burstEnd s) := by
  rw [burstEnd_frame]
  exact ⟨rfl, rfl, rfl, rfl⟩

theorem sameSound_burstBegin (s : State) : SameSound s (burstBegin s) := by
  rw [burstBegin_frame]
  exact ⟨rfl, rfl, rfl, rfl⟩

theorem sameSound_accept (b : Burst) (s : State) : SameSound s (accept b s) := by
  rw [accept_frame]
  exact ⟨rfl, rfl, rfl, rfl⟩

theorem sameSound_fadeInEnd (s : State) : SameSound s (fadeInEnd s) := by
  rw [fadeInEnd_frame]
  exact ⟨rfl, rfl, rfl, rfl⟩

/-- The engine's own work of a block boundary starts a clearing at most, which zeroes no word yet (R76). -/
theorem sameSound_engineBoundary (mute : Bool) (s : State) : SameSound s (engineBoundary mute s) := by
  unfold engineBoundary
  split
  · exact ⟨rfl, rfl, rfl, rfl⟩
  · split
    · exact sameSound_fadeInEnd s
    · exact ⟨rfl, rfl, rfl, rfl⟩

theorem sameSound_engineLockLoss (s : State) : SameSound s (engineLockLoss s) := by
  rw [engineLockLoss_frame]
  exact ⟨rfl, rfl, rfl, rfl⟩

/-- A warm reset's self-CUT starts a clearing at most, which zeroes no word yet (R79, R153). -/
theorem sameSound_engineWarmReset (s : State) : SameSound s (engineWarmReset s) := by
  unfold engineWarmReset selfCut
  rw [resetCommit_frame]
  dsimp only
  split <;> exact ⟨rfl, rfl, rfl, rfl⟩

theorem sameSound_copyBank (s : State) : SameSound s (copyBank s) := by
  rw [copyBank_frame]
  exact ⟨rfl, rfl, rfl, rfl⟩

theorem sameSound_beginRecall (n : Fin 16) (s : State) : SameSound s (beginRecall n s) := by
  rw [beginRecall_frame]
  exact ⟨rfl, rfl, rfl, rfl⟩

theorem sameSound_eraseEnd (ok : Bool) (n : Fin 16) (s : State) : SameSound s (eraseEnd ok n s) := by
  rw [eraseEnd_frame]
  exact ⟨rfl, rfl, rfl, rfl⟩

theorem sameSound_writeEnd (ok : Bool) (n : Fin 16) (s : State) : SameSound s (writeEnd ok n s) := by
  rw [writeEnd_frame]
  exact ⟨rfl, rfl, rfl, rfl⟩

theorem sameSound_rewriteEnd (ok : Bool) (r : StartRecord) (s : State) : SameSound s (rewriteEnd ok r s) := by
  rw [rewriteEnd_frame]
  exact ⟨rfl, rfl, rfl, rfl⟩

/-- What a recall's completion does before the start-up commit (R163). -/
theorem sameSound_recalled (n : Fin 16) (s : State) :
    SameSound s (recallReleased (pulse .storeDone (replacePending n s))) := by
  rw [recallReleased_frame, pulse_frame, replacePending_frame]
  exact ⟨rfl, rfl, rfl, rfl⟩

theorem sameSound_setBank (s : State) (n : BankName) (b : Bank) : SameSound s (setBank s n b) := by
  cases n <;> exact ⟨rfl, rfl, rfl, rfl⟩

theorem sameSound_lineAfter (n : BankName) (j : Fin 16) (old r : LineRec) (s : State) :
    SameSound s (lineAfter n j old r s) := by
  unfold lineAfter
  split <;> exact ⟨rfl, rfl, rfl, rfl⟩

theorem sameSound_globalsAfter (live : Bool) (s : State) : SameSound s (globalsAfter live s) := by
  cases live <;> exact ⟨rfl, rfl, rfl, rfl⟩

theorem sameSound_offerIdle (s : State) : SameSound s (offerIdle s) := by
  unfold offerIdle
  split <;> exact ⟨rfl, rfl, rfl, rfl⟩

theorem sameSound_relockEdge (env : Env) (s : State) : SameSound s (relockEdge env s) := by
  unfold relockEdge
  split <;> exact ⟨rfl, rfl, rfl, rfl⟩

theorem sameSound_powerOnScan (s : State) : SameSound s (powerOnScan s) := by
  unfold powerOnScan
  rw [pulseIf_frame]
  exact ⟨rfl, rfl, rfl, rfl⟩

theorem sameSound_startUpRecall (s : State) : SameSound s (startUpRecall s) := by
  unfold startUpRecall
  split
  · split
    · rw [beginRecall_frame]
      exact ⟨rfl, rfl, rfl, rfl⟩
    · exact ⟨rfl, rfl, rfl, rfl⟩
  · exact ⟨rfl, rfl, rfl, rfl⟩

theorem sameSound_inputsWork (env : Env) (boundary : Bool) (s : State) : SameSound s (inputsWork env boundary s) := by
  constructor <;> simp only [inputsWork]

theorem sameSound_ramps (s : State) : SameSound s (reverbRamp (inputsRamp s)) := by
  constructor <;> simp only [reverbRamp, inputsRamp]

/-- An install sets currents and binds inputs, and leaves the pool (R51, R75). -/
theorem sameSound_boundAfresh (s : State) : SameSound s (reverbInstall (inputsInstall s)) := by
  constructor <;> simp only [reverbInstall, inputsInstall]

theorem SameSound.trans {s t u : State} (h : SameSound s t) (k : SameSound t u) : SameSound s u :=
  ⟨k.outputs.trans h.outputs, k.pool.trans h.pool, k.front.trans h.front, k.back.trans h.back⟩

/-- Power-on leaves the output units, the pool and the hand-off line of the state after reset (R37, R80, R119). -/
theorem sameSound_powerOn (straps : Nat) (s : State) : SameSound State.reset (powerOn straps s) := by
  have scanned : ∀ base : State, SameSound State.reset base →
      SameSound State.reset (withEdges startUpRecall (powerOnScan base)) := fun base hb =>
    (hb.trans (sameSound_powerOnScan base)).trans ((sameSound_startUpRecall _).trans (sameSound_withEdges startUpRecall _))
  unfold powerOn
  refine scanned _ ?_
  constructor <;> dsimp only

/-! ### Invariants of the sound path -/

/-- A fold of operations that keep a property keeps it. -/
theorem keeps_foldl {P : State → Prop} {α : Type} {f : State → α → State} (hf : ∀ s a, P s → P (f s a)) (l : List α) (s : State) (h : P s) :
    P (l.foldl f s) := by
  induction l generalizing s with
  | nil => exact h
  | cons a l ih => exact ih _ (hf s a h)

/-- A property of states that reads the sound path alone, holds after reset and is kept by each operation that writes
output units, the pool or the hand-off line. -/
structure SoundInvariant (P : State → Prop) : Prop where
  blind            : ∀ {s t : State}, P s → SameSound s t → P t
  reset            : P State.reset
  keeps_outputsWork      : ∀ q core s, P s → P (outputsWork q core s)
  keeps_evaluateAt       : ∀ s m, P s → P (evaluateAt s m)
  keeps_blockPeaks       : ∀ s, P s → P (blockPeaks s)
  keeps_outputsRamp      : ∀ mute s, P s → P (outputsRamp mute s)
  keeps_profileWritten   : ∀ n s, P s → P (profileWritten n s)
  keeps_outputsSwap      : ∀ s, P s → P (outputsSwap s)
  keeps_resetGuard       : ∀ m s, P s → P (resetGuard m s)
  keeps_resetGuards      : ∀ s, P s → P (resetGuards s)
  keeps_outputsLockLoss  : ∀ s, P s → P (outputsLockLoss s)
  keeps_outputsInstall   : ∀ s, P s → P (outputsInstall s)
  keeps_outputsWarmReset : ∀ s, P s → P (outputsWarmReset s)
  keeps_clearCounter     : ∀ i s, P s → P (clearCounter i s)
  keeps_reverbCompute    : ∀ x level s, P s → P (reverbCompute x level s)
  keeps_reverbClear      : ∀ s, P s → P (reverbClear s)
  keeps_handOff          : ∀ q core s, P s → P (handOff (Vector.ofFn (sentSample q core)) s)

section

variable {P : State → Prop} (hP : SoundInvariant P)

include hP

theorem SoundInvariant.keeps_withEdges {f : State → State} {s : State} (h : P (f s)) : P (withEdges f s) :=
  hP.blind h (sameSound_withEdges f s)

/-! #### Engine and store -/

theorem SoundInvariant.keeps_execute (mode : CommitMode) (s : State) (h : P s) : P (execute mode s) := by
  unfold execute
  split
  · exact hP.blind (hP.keeps_outputsSwap _ (hP.blind (t := swapBanks s) h ⟨rfl, rfl, rfl, rfl⟩)) ⟨rfl, rfl, rfl, rfl⟩
  · exact hP.blind h ⟨rfl, rfl, rfl, rfl⟩

theorem SoundInvariant.keeps_executeScheduled (s : State) (h : P s) : P (executeScheduled s) := by
  unfold executeScheduled
  split
  · exact hP.keeps_execute _ s h
  · exact h

theorem SoundInvariant.keeps_commitStart (slip : Bool) (s : State) (h : P s) : P (commitStart slip s) := by
  unfold commitStart
  split
  · exact hP.keeps_executeScheduled s h
  · exact h

theorem SoundInvariant.keeps_begunCommit (mode : CommitMode) (s : State) (h : P s) : P (execute mode (beginCommit mode s)) :=
  hP.keeps_execute mode (beginCommit mode s) (hP.blind h ⟨rfl, rfl, rfl, rfl⟩)

theorem SoundInvariant.keeps_startUpCommit (s : State) (h : P s) : P (startUpCommit s) := by
  unfold startUpCommit
  split
  · exact hP.blind h ⟨rfl, rfl, rfl, rfl⟩
  · exact hP.keeps_begunCommit .auto s h

theorem SoundInvariant.keeps_recallEnd (n : Fin 16) (s : State) (h : P s) : P (recallEnd n s) := by
  have hr := hP.blind h (sameSound_recalled n s)
  unfold recallEnd
  dsimp only
  split
  · exact hP.keeps_startUpCommit _ hr
  · exact hr

theorem SoundInvariant.keeps_operationEnd (s : State) (h : P s) : P (operationEnd s) := by
  unfold operationEnd
  dsimp only
  split
  · exact hP.blind h (sameSound_eraseEnd _ _ s)
  · exact hP.blind h (sameSound_writeEnd _ _ s)
  · split
    · exact hP.keeps_recallEnd _ s h
    · exact h
  · split
    · exact hP.keeps_recallEnd _ s h
    · exact h
  · split
    · exact hP.blind h (sameSound_rewriteEnd _ _ s)
    · exact hP.blind h ⟨rfl, rfl, rfl, rfl⟩
  · exact h

theorem SoundInvariant.keeps_endOperation (s : State) (h : P s) : P (endOperation s) :=
  hP.keeps_operationEnd _ (hP.blind h ⟨rfl, rfl, rfl, rfl⟩)

theorem SoundInvariant.keeps_storeBoundary (s : State) (h : P s) : P (storeBoundary s) := by
  have hc : P (countDown s) := hP.blind h ⟨rfl, rfl, rfl, rfl⟩
  unfold storeBoundary
  dsimp only
  split
  · exact h
  · split
    · exact hP.keeps_operationEnd _ hc
    · exact hc

theorem SoundInvariant.keeps_releaseHeldRecall (s : State) (h : P s) : P (releaseHeldRecall s) := by
  unfold releaseHeldRecall
  split
  · exact hP.keeps_operationEnd _ (hP.blind h ⟨rfl, rfl, rfl, rfl⟩)
  · exact h

theorem SoundInvariant.keeps_install (s : State) (h : P s) : P (install s) := by
  have ho : ∀ e t, P t → P (setEngine e (outputsInstall (reverbInstall (inputsInstall t)))) := fun e t ht =>
    hP.blind (hP.keeps_outputsInstall _ (hP.blind ht (sameSound_boundAfresh t))) ⟨rfl, rfl, rfl, rfl⟩
  unfold install
  refine ho _ _ ?_
  split
  · exact hP.blind h ⟨rfl, rfl, rfl, rfl⟩
  · exact h
  · exact h

theorem SoundInvariant.keeps_clearingComplete (s : State) (h : P s) : P (clearingComplete s) := by
  have he : P (endClearing s) := hP.blind h ⟨rfl, rfl, rfl, rfl⟩
  unfold clearingComplete
  dsimp only
  split
  · exact hP.keeps_install _ he
  · exact he

theorem SoundInvariant.keeps_clearingEnd (s : State) (h : P s) : P (clearingEnd s) := by
  unfold clearingEnd clearingOff
  split
  · exact hP.keeps_releaseHeldRecall _ (hP.keeps_clearingComplete s h)
  · exact hP.keeps_releaseHeldRecall _ h

theorem SoundInvariant.keeps_lockLost (s : State) (h : P s) : P (lockLost s) := by
  have hi : P (inputsLockLoss (ringLockLoss s)) := hP.blind h ⟨rfl, rfl, rfl, rfl⟩
  have ho : P (stopBurst (outputsLockLoss (inputsLockLoss (ringLockLoss s)))) :=
    hP.blind (hP.keeps_outputsLockLoss _ hi) ⟨rfl, rfl, rfl, rfl⟩
  exact hP.blind (hP.blind ho (sameSound_engineLockLoss _)) (sameSound_captureLockLoss _)

theorem SoundInvariant.keeps_signalLost (s : State) (h : P s) : P (signalLost s) := by
  have ht : P (setRing { s.ring with signal := false, gap := 0 } s) := hP.blind h ⟨rfl, rfl, rfl, rfl⟩
  unfold signalLost
  dsimp only
  split
  · exact hP.keeps_withEdges (hP.keeps_lockLost _ ht)
  · exact hP.blind ht ⟨rfl, rfl, rfl, rfl⟩
  · exact ht

/-! #### Requests -/

theorem SoundInvariant.keeps_writeEntry {α : Type} {k : Nat} {get : Bank → Vector α k} {put : Bank → Vector α k → Bank} {live : Bool}
    {n : BankName} {r : Treated α} {equal : α → α → Bool} {merge : α → α → α} {after : Fin k → α → α → State → State}
    {i : Nat} {s t : State} {clamped : Bool} (ha : ∀ j old new u, P u → P (after j old new u)) (h : P s)
    (hw : writeEntry get put live n r equal merge after i s = .ok (t, clamped)) : P t := by
  unfold writeEntry at hw
  split at hw
  · cases hw
  · split at hw
    · dsimp only at hw
      split at hw
      · cases hw
      · obtain ⟨rfl, -⟩ := Prod.mk.inj (Except.ok.inj hw)
        exact ha _ _ _ _ (hP.blind h (sameSound_setBank s n _))
    · cases hw

theorem SoundInvariant.keeps_writeBank {table : BankTable} {v : View} {i : Nat} {ws : List Word} {s t : State} {clamped : Bool} (h : P s)
    (hw : writeBank table v i ws s = .ok (t, clamped)) : P t := by
  unfold writeBank at hw
  cases table with
  | inputs => exact hP.keeps_writeEntry (fun _ _ _ _ hu => hu) h hw
  | injections => exact hP.keeps_writeEntry (fun _ _ _ _ hu => hu) h hw
  | lines => exact hP.keeps_writeEntry (fun _ _ _ u hu => hP.blind hu (sameSound_lineAfter _ _ _ _ u)) h hw
  | taps => exact hP.keeps_writeEntry (fun _ _ _ _ hu => hu) h hw
  | outputs =>
    refine hP.keeps_writeEntry (fun m old new u hu => ?_) h hw
    unfold outputAfter
    split
    · exact hP.keeps_resetGuard m u hu
    · exact hu
  | profiles =>
    refine hP.keeps_writeEntry (fun p old new u hu => ?_) h hw
    unfold profileAfter
    split
    · exact hP.keeps_profileWritten p u hu
    · exact hu
  | globals =>
    simp only [writeGlobals] at hw
    split at hw
    · cases hw
    · split at hw
      · cases hw
      · obtain ⟨rfl, -⟩ := Prod.mk.inj (Except.ok.inj hw)
        exact hP.blind (hP.blind h (sameSound_setBank s _ _)) (sameSound_globalsAfter _ _)

theorem SoundInvariant.keeps_writeTable {p : Pointer} {ws : List Word} {s t : State} {clamped : Bool} (h : P s)
    (hw : writeTable p ws s = .ok (t, clamped)) : P t := by
  unfold writeTable at hw
  split at hw
  · exact hP.keeps_writeBank h hw
  · unfold writeAmendment at hw
    split at hw
    · cases hw
    · obtain ⟨rfl, -⟩ := Prod.mk.inj (Except.ok.inj hw)
      exact hP.blind h ⟨rfl, rfl, rfl, rfl⟩
  · obtain ⟨rfl, -⟩ := Prod.mk.inj (Except.ok.inj hw)
    exact hP.blind h ⟨rfl, rfl, rfl, rfl⟩
  all_goals cases hw

theorem SoundInvariant.keeps_putRecords (rs : List (List Word)) (done : Nat) (clamped : Bool) (s : State) (h : P s) :
    P (putRecords rs done clamped s).1 := by
  induction rs generalizing done clamped s with
  | nil => exact h
  | cons r rs ih =>
    simp only [putRecords]
    split
    · exact h
    · split
      · exact h
      · rename_i hw
        exact ih _ _ _ (hP.blind (hP.keeps_writeTable h hw) ⟨rfl, rfl, rfl, rfl⟩)

theorem SoundInvariant.keeps_readTable {p : Pointer} {s t : State} {ws : List Word} (h : P s) (hr : readTable p s = .ok (t, ws)) : P t := by
  unfold readTable at hr
  split at hr
  case h_7 =>
    obtain ⟨rfl, -⟩ := Prod.mk.inj (Except.ok.inj hr)
    exact hP.keeps_clearCounter _ s h
  case h_8 =>
    unfold readCapture at hr
    split at hr
    · cases hr
    · cases hr
    all_goals
      split at hr
      · obtain ⟨rfl, -⟩ := Prod.mk.inj (Except.ok.inj hr)
        exact h
      · cases hr
  all_goals
    obtain ⟨rfl, -⟩ := Prod.mk.inj (Except.ok.inj hr)
    exact h

theorem SoundInvariant.keeps_takeRecords (n done : Nat) (ws : List Word) (s : State) (h : P s) : P (takeRecords n done ws s).1 := by
  induction n generalizing done ws s with
  | zero => exact h
  | succ n ih =>
    simp only [takeRecords]
    split
    · exact h
    · split
      · exact h
      · rename_i hr
        exact ih _ _ _ (hP.blind (hP.keeps_readTable h hr) ⟨rfl, rfl, rfl, rfl⟩)

theorem SoundInvariant.keeps_warmReset (s : State) (h : P s) : P (warmReset s) := by
  have ho : P (outputsWarmReset (reverbWarmReset (inputsWarmReset (handlerWarmReset (ringWarmReset (clearNotices s)))))) :=
    hP.keeps_outputsWarmReset _ (hP.blind h ⟨rfl, rfl, rfl, rfl⟩)
  refine hP.blind (s := captureWarmReset (generatorWarmReset _)) ?_ (sameSound_engineWarmReset _)
  exact hP.blind ho ⟨rfl, rfl, rfl, rfl⟩

/-- A request that starts a store operation leaves the sound path alone. -/
theorem SoundInvariant.keeps_rewrite (sector : Option (Fin 16)) (r : StartRecord) (s : State) (h : P s) : P (rewrite sector r s).1 := by
  unfold rewrite
  split
  · exact h
  · split
    · exact h
    · exact hP.blind h ⟨rfl, rfl, rfl, rfl⟩

theorem SoundInvariant.keeps_requestOp (r : Request) (s : State) (h : P s) : P (requestOp r s).1 := by
  have still : ∀ t : State, SameSound s t → P t := fun t ht => hP.blind h ht
  cases r with
  | aim view table index step =>
    simp only [requestOp, aim]
    split
    · exact still _ ⟨rfl, rfl, rfl, rfl⟩
    · exact h
  | put count payload =>
    simp only [requestOp, put]
    split
    · exact still _ ⟨rfl, rfl, rfl, rfl⟩
    · split
      · exact h
      · exact hP.keeps_putRecords _ _ _ s h
  | take count =>
    simp only [requestOp, take]
    split
    · exact still _ ⟨rfl, rfl, rfl, rfl⟩
    · exact hP.keeps_takeRecords _ _ _ s h
  | commit mode timing =>
    simp only [requestOp, commit]
    split
    · exact h
    · split
      · exact h
      · split
        · exact hP.keeps_begunCommit _ s h
        · split
          · exact still _ ⟨rfl, rfl, rfl, rfl⟩
          · exact h
  | cancel =>
    simp only [requestOp, cancel]
    split <;> exact still _ ⟨rfl, rfl, rfl, rfl⟩
  | copy =>
    simp only [requestOp, copy]
    split
    · exact h
    · exact still _ (sameSound_copyBank s)
  | recallSector n =>
    simp only [requestOp, recallSector]
    split
    · exact h
    · split
      · exact h
      · split
        · exact h
        · split
          · exact h
          · exact still _ (sameSound_beginRecall _ s)
  | write n =>
    simp only [requestOp, write]
    repeat' split
    all_goals exact still _ ⟨rfl, rfl, rfl, rfl⟩
  | erase n =>
    simp only [requestOp, erase]
    repeat' split
    all_goals exact still _ ⟨rfl, rfl, rfl, rfl⟩
  | protect n =>
    simp only [requestOp, protect]
    split
    · exact h
    · exact hP.keeps_rewrite _ _ s h
  | unprotect n =>
    simp only [requestOp, unprotect]
    split
    · exact h
    · exact hP.keeps_rewrite _ _ s h
  | setStart n =>
    simp only [requestOp, setStart]
    split
    · exact h
    · exact hP.keeps_rewrite _ _ s h
  | guardReset m =>
    simp only [requestOp, guardReset]
    split
    · exact h
    · exact hP.keeps_resetGuards s h
    · exact hP.keeps_resetGuard _ s h
  | fire kind target level length =>
    simp only [requestOp, fire]
    split
    · split
      · exact h
      · split
        · exact h
        · exact still _ (sameSound_accept _ s)
    · exact h
  | stopGenerator =>
    simp only [requestOp, stopGenerator]
    split <;> exact still _ ⟨rfl, rfl, rfl, rfl⟩
  | arm kind number trigger length frame =>
    simp only [requestOp, arm]
    repeat' split
    all_goals exact still _ ⟨rfl, rfl, rfl, rfl⟩
  | stopCapture =>
    simp only [requestOp, stopCapture]
    repeat' split
    all_goals exact still _ ⟨rfl, rfl, rfl, rfl⟩
  | clearFlags mask =>
    simp only [requestOp, clearFlags]
    split <;> exact still _ ⟨rfl, rfl, rfl, rfl⟩
  | resetNode => exact hP.keeps_warmReset s h
  | wherePointer => exact h
  | status => exact h
  | badCell kind => exact still _ ⟨rfl, rfl, rfl, rfl⟩

theorem SoundInvariant.keeps_handle (hd : Header) (r : Request) (s : State) (h : P s) : P (handle hd r s) := by
  have he : P (edges s (requestOp r s).1) := hP.blind (hP.keeps_requestOp r s h) (sameSound_edges s _)
  unfold handle serve
  split
  · exact hP.blind he ⟨rfl, rfl, rfl, rfl⟩
  · exact h

/-! #### The frame period -/

theorem SoundInvariant.keeps_outputsBoundary (mute : Bool) (s : State) (h : P s) : P (outputsBoundary mute s) := by
  have hb : P (withEdges backoffStep (blockPeaks s)) :=
    hP.keeps_withEdges (hP.blind (hP.keeps_blockPeaks s h) (sameSound_backoffStep _))
  have hg : P (withEdges evaluateGuards (withEdges backoffStep (blockPeaks s))) :=
    hP.keeps_withEdges (keeps_foldl hP.keeps_evaluateAt (entries 32) _ hb)
  exact hP.keeps_withEdges (hP.blind (hP.keeps_outputsRamp mute _ hg) (sameSound_engineBoundary mute _))

theorem SoundInvariant.keeps_inputsAndCore (env : Env) (boundary : Bool) (s : State) (h : P s) : P (inputsAndCore env boundary s) := by
  have hw : ∀ t, P t → P (inputsWork env boundary t) := fun t ht => hP.blind ht (sameSound_inputsWork env boundary t)
  unfold inputsAndCore
  split
  · rename_i hfirst
    rw [samplingState, if_pos hfirst]
    exact hw _ (hP.keeps_clearingEnd _ (hP.keeps_reverbClear s h))
  · unfold reverbWork
    split
    · exact hP.keeps_reverbClear _ (hw s h)
    · exact hP.keeps_reverbCompute _ _ _ (hw s h)

theorem SoundInvariant.keeps_sampleWork (env : Env) (boundary : Bool) (s : State) (h : P s) : P (sampleWork env boundary s) := by
  have hg : P (generatorWork (inputsAndCore env boundary s)) :=
    hP.blind (hP.keeps_inputsAndCore env boundary s h) ⟨rfl, rfl, rfl, rfl⟩
  have ho := hP.keeps_handOff (generatorSamples s.gen) s _ (hP.keeps_outputsWork (generatorSamples s.gen) s _ hg)
  unfold sampleWork
  dsimp only
  exact hP.blind (hP.blind ho (sameSound_captureWork _ _)) ⟨rfl, rfl, rfl, rfl⟩

theorem SoundInvariant.keeps_takeEvent (env : Env) (s : State) (h : P s) : P (takeEvent env s) := by
  unfold takeEvent
  split
  · exact hP.keeps_withEdges (hP.keeps_lockLost s h)
  · split
    · split
      · unfold takeCell
        split
        · exact hP.keeps_handle _ _ s h
        · split
          · exact hP.blind h (sameSound_offerIdle s)
          · exact h
      · exact h
    · exact h

theorem SoundInvariant.keeps_runTask (env : Env) (boundary : Bool) (k : Task) (s : State) (h : P s) : P (runTask env boundary k s) := by
  cases k with
  | relockEdge => exact hP.blind h (sameSound_relockEdge env s)
  | commitStart => exact hP.keeps_withEdges (hP.keeps_commitStart env.slip s h)
  | captureStart => exact hP.blind h (sameSound_captureStart env.slip s)
  | decay => exact hP.blind h (sameSound_decayBoundary s)
  | ramps => exact hP.blind h (sameSound_ramps s)
  | outputs => exact hP.keeps_outputsBoundary _ s h
  | store => exact hP.keeps_withEdges (hP.keeps_storeBoundary s h)
  | work => exact hP.keeps_withEdges (hP.keeps_sampleWork env boundary s h)
  | burstEnd => exact hP.blind (hP.blind h (sameSound_burstEnd s)) (sameSound_burstBegin _)
  | captureEnd => exact hP.blind h (sameSound_captureEnd s)
  | clearingEnd => exact hP.keeps_withEdges (hP.keeps_clearingEnd s h)
  | missingEdge => exact hP.blind h (sameSound_missingEdge s)
  | event => exact hP.keeps_takeEvent env s h

theorem SoundInvariant.keeps_framePeriod (env : Env) (s : State) (h : P s) : P (framePeriod env s) :=
  keeps_foldl (fun t k ht => hP.keeps_runTask env _ k t ht) _ (beginPeriod s) (hP.blind h ⟨rfl, rfl, rfl, rfl⟩)

/-- A frame period of an arrival, its hand-off line as before it. -/
theorem SoundInvariant.keeps_ringPeriod (c : FrameClass) (f : Frame) (env : Env) (r : Ring) (s : State)
    (hf : r.handFront = s.ring.handFront) (hb : r.handBack = s.ring.handBack) (h : P s) :
    P (ringPeriod c f env (setRing r s)) :=
  hP.blind (hP.keeps_framePeriod env (setRing r s) (hP.blind h ⟨rfl, rfl, hf, hb⟩)) ⟨rfl, rfl, rfl, rfl⟩

theorem SoundInvariant.keeps_lockedArrival (c : FrameClass) (f : Frame) (s : State) (h : P s) : P (lockedArrival c f s) := by
  have counted : (goodCounted s.ring).handFront = s.ring.handFront ∧ (goodCounted s.ring).handBack = s.ring.handBack := by
    unfold goodCounted
    split <;> exact ⟨rfl, rfl⟩
  cases c with
  | good =>
    simp only [lockedArrival, goodArrival, slipArrival]
    split
    · exact hP.keeps_ringPeriod _ f _ _ s counted.1 counted.2 h
    · split <;> exact hP.keeps_ringPeriod _ f _ _ s rfl rfl h
  | flagged => exact hP.keeps_ringPeriod _ f _ _ s rfl rfl h
  | bad => exact hP.keeps_ringPeriod _ f _ _ s rfl rfl h

theorem SoundInvariant.keeps_arrive (f : Frame) (s : State) (h : P s) : P (arrive f s) := by
  have present : ∀ c, P (present c s) := fun c => by
    cases c <;> exact hP.blind h ⟨rfl, rfl, rfl, rfl⟩
  unfold arrive
  dsimp only
  split
  · refine hP.blind (present (classify f)) ?_
    cases classify f <;> exact ⟨rfl, rfl, rfl, rfl⟩
  · split
    · exact hP.keeps_ringPeriod _ f _ _ _ rfl rfl (present (classify f))
    · refine hP.blind (present (classify f)) ?_
      cases classify f with
      | good =>
        simp only [acquiringArrival]
        split <;> exact ⟨rfl, rfl, rfl, rfl⟩
      | flagged => exact ⟨rfl, rfl, rfl, rfl⟩
      | bad => exact ⟨rfl, rfl, rfl, rfl⟩
  · exact hP.keeps_lockedArrival _ f _ (present (classify f))

theorem SoundInvariant.keeps_countGap (s : State) (h : P s) : P (countGap s) := by
  unfold countGap
  split
  · split
    · exact hP.keeps_signalLost s h
    · exact hP.blind h ⟨rfl, rfl, rfl, rfl⟩
  · exact h

theorem SoundInvariant.keeps_oscillator (s : State) (h : P s) : P (oscillator s) := by
  unfold oscillator
  split
  · exact hP.keeps_countGap _ (hP.blind h ⟨rfl, rfl, rfl, rfl⟩)
  · exact hP.keeps_countGap _ (hP.keeps_framePeriod _ _ (hP.blind h ⟨rfl, rfl, rfl, rfl⟩))

/-! #### Commands -/

theorem SoundInvariant.keeps_happens {due : Bool} {f : State → State} {s t : State} (h : P s)
    (he : happens due f s = .next t) (hf : P (f s)) : P t := by
  unfold happens at he
  split at he
  · cases he
    exact hP.keeps_withEdges hf
  · cases he
    exact h

/-- A command keeps the invariant: requests by what they do, events of the part where they are due. -/
theorem SoundInvariant.keeps_exec {c : Instr} {s t : State} (h : P s) (he : exec c s = .next t) : P t := by
  have still : ∀ u : State, SameSound s u → P u := fun u hu => hP.blind h hu
  cases hr : c.request? with
  | some hd =>
    rw [exec_request hr] at he
    cases he
    exact hP.keeps_handle _ _ s h
  | none =>
    cases c
    case powerOnReset straps =>
      cases he
      exact hP.blind hP.reset (sameSound_powerOn straps s)
    case resetPinAssert =>
      cases he
      split
      · exact still _ ⟨rfl, rfl, rfl, rfl⟩
      · exact h
    case arrival f =>
      cases he
      split
      · exact h
      · split
        · exact still _ ⟨rfl, rfl, rfl, rfl⟩
        · exact hP.keeps_arrive f s h
    case oscillatorFramePeriod =>
      cases he
      split
      · exact hP.keeps_oscillator s h
      · exact h
    case signalLoss =>
      cases he
      split
      · exact hP.keeps_signalLost s h
      · exact h
    case powerLoss =>
      cases he
      split
      · exact still _ ⟨rfl, rfl, rfl, rfl⟩
      · exact h
    case lockAcquired => exact hP.keeps_happens h he (still _ ⟨rfl, rfl, rfl, rfl⟩)
    case goodRunComplete => exact hP.keeps_happens h he (still _ ⟨rfl, rfl, rfl, rfl⟩)
    case lockLoss => exact hP.keeps_happens h he (hP.keeps_lockLost s h)
    case inputAdmission i => exact hP.keeps_happens h he (still _ ⟨rfl, rfl, rfl, rfl⟩)
    case inputDrop i => exact hP.keeps_happens h he (still _ ⟨rfl, rfl, rfl, rfl⟩)
    case burstEnd => exact hP.keeps_happens h he (still _ ⟨rfl, rfl, rfl, rfl⟩)
    case captureStart => exact hP.keeps_happens h he (still _ ⟨rfl, rfl, rfl, rfl⟩)
    case captureComplete v => exact hP.keeps_happens h he (still _ ⟨rfl, rfl, rfl, rfl⟩)
    case guardDetection m => exact hP.keeps_happens h he (hP.keeps_evaluateAt s m h)
    case guardHoldExpiry m => exact hP.keeps_happens h he (hP.keeps_evaluateAt s m h)
    case guardRecoveryStep m => exact hP.keeps_happens h he (hP.keeps_evaluateAt s m h)
    case backoffIntervalExpiry => exact hP.keeps_happens h he (still _ (sameSound_backoffStep s))
    case decayTake => exact hP.keeps_happens h he (still _ (sameSound_decayTake s))
    case decayCompletion => exact hP.keeps_happens h he (still _ (sameSound_decayCompletion s))
    case commitExecution => exact hP.keeps_happens h he (hP.keeps_executeScheduled s h)
    case clearingStart => exact hP.keeps_happens h he (still _ ⟨rfl, rfl, rfl, rfl⟩)
    case clearingComplete =>
      exact hP.keeps_happens h he (hP.keeps_releaseHeldRecall _ (hP.keeps_clearingComplete _ (hP.keeps_reverbClear s h)))
    case fadeInEnd => exact hP.keeps_happens h he (still _ (sameSound_fadeInEnd s))
    case eraseCompletion => exact hP.keeps_happens h he (hP.keeps_endOperation s h)
    case writeCompletion => exact hP.keeps_happens h he (hP.keeps_endOperation s h)
    case recallCompletion => exact hP.keeps_happens h he (hP.keeps_endOperation s h)
    case startRecordRewriteEnd => exact hP.keeps_happens h he (hP.keeps_endOperation s h)
    all_goals cases hr

/-- Every step keeps an invariant of the sound path. -/
theorem SoundInvariant.keeps_step {s t : State} (h : P s) (hs : step s = .next t) : P t := by
  unfold step at hs
  split at hs
  · cases hs
    exact h
  · rename_i c rest _
    exact hP.keeps_exec (s := { s with pending := rest }) (hP.blind h ⟨rfl, rfl, rfl, rfl⟩) hs

end

/-! ### Output units -/

/-- A current and a guard within their ranges (R9, R101). -/
def OutputUnit.Legal (u : OutputUnit) : Prop := u.current ≤ Config.silence ∧ GuardLegal u.guard

theorem outputsLegal_iff (s : State) : OutputsLegal s ↔ ∀ m : Fin 32, s.outputs[m].Legal := Iff.rfl

/-- Every unit of a changed table is legal where the change of each is. -/
theorem outputsLegal_changeAll {s : State} {f : Fin 32 → OutputUnit → OutputUnit} (h : OutputsLegal s)
    (hf : ∀ m u, u.Legal → (f m u).Legal) : OutputsLegal { s with outputs := changeAll s.outputs f } := fun m => by
  rw [getElem_changeAll]
  exact hf m _ (h m)

theorem guardLegal_watchGuard : GuardLegal watchGuard :=
  ⟨fun _ => ⟨rfl, rfl, rfl⟩, nofun, nofun⟩

/-- A detection ducks with its recovery at 0 (R103). -/
theorem guardLegal_detected (p : ProfileRec) (g : Guard) : GuardLegal (detected p g) :=
  ⟨nofun, fun _ => rfl, nofun⟩

/-- An evaluation leaves a legal guard record (R102 to R106). -/
theorem guardLegal_evaluated (p : ProfileRec) (u : OutputUnit) (h : GuardLegal u.guard) : GuardLegal (evaluated p u) := by
  obtain ⟨hw, hd, hr⟩ := h
  unfold evaluated
  dsimp only
  split
  · exact guardLegal_detected p _
  · split
    · exact ⟨hw, hd, hr⟩
    · rename_i hs
      split
      · exact ⟨nofun, nofun, fun _ => rfl⟩
      · exact ⟨fun h => by simp [hs] at h, fun _ => hd hs, fun h => by simp [hs] at h⟩
    · rename_i hs
      split
      · unfold recovered
        split
        · exact ⟨fun _ => ⟨rfl, rfl, rfl⟩, nofun, nofun⟩
        · exact ⟨nofun, nofun, fun _ => rfl⟩
      · exact ⟨fun h => by simp [hs] at h, fun h => by simp [hs] at h, fun _ => hr hs⟩

/-- A guard brought within a profile stays legal: its state stands and nothing at 0 rises (R100). -/
theorem guardLegal_fitGuard (p : ProfileRec) (g : Guard) (h : GuardLegal g) : GuardLegal (fitGuard p g) := by
  obtain ⟨hw, hd, hr⟩ := h
  refine ⟨fun hs => ?_, fun hs => ?_, fun hs => ?_⟩
  · obtain ⟨h1, h2, h3⟩ := hw hs
    simp [fitGuard, h1, h2, h3]
  · simp [fitGuard, hd hs]
  · simp [fitGuard, hr hs]

/-- An output set to a legal guard record (R101). -/
theorem outputsLegal_setGuard {s : State} {m : Fin 32} {g : Guard} (h : OutputsLegal s) (hg : GuardLegal g) :
    OutputsLegal (setGuard m g s) := fun k => by
  obtain ⟨hc, hk⟩ := h k
  simp only [setGuard, getElem_changeAt]
  split
  · exact ⟨(h m).1, hg⟩
  · exact ⟨hc, hk⟩

theorem outputsLegal_detectAt {p : ProfileRec} {m : Fin 32} {s : State} (h : OutputsLegal s) :
    OutputsLegal (detectAt p m s) := by
  have hd : OutputsLegal (setGuard m (detected p s.outputs[m].guard) s) := outputsLegal_setGuard h (guardLegal_detected p _)
  unfold detectAt
  dsimp only
  split
  · exact hd
  · exact hd

theorem outputsLegal_evaluateAt (s : State) (m : Fin 32) (h : OutputsLegal s) : OutputsLegal (evaluateAt s m) := by
  unfold evaluateAt
  split
  · exact h
  · split
    · exact outputsLegal_detectAt h
    · exact outputsLegal_setGuard h (guardLegal_evaluated _ _ (h m).2)

/-- The per-sample work counts clips and moves the running peaks, nothing else of an output (R15, R96). -/
theorem outputsWork_outputs (q : Vector Sample 32) (core s : State) :
    (outputsWork q core s).outputs = changeAll s.outputs (fun m u =>
      { u with
        runningPeak := max u.runningPeak (magnitude (outputSample core m))
        clips := if outputClipped q core m then bump u.clips else u.clips }) := by
  unfold outputsWork
  dsimp only
  rw [foldl_frame _ (fun u j => pulseIf_frame _ _ u)]

theorem outputsLegal_clearCounter (i : Nat) (s : State) (h : OutputsLegal s) : OutputsLegal (clearCounter i s) := by
  unfold clearCounter
  split
  · exact h
  · exact h
  · exact h
  · exact h
  · split
    · exact h
    · split
      · exact h
      · intro m
        dsimp only [changeEntry]
        split
        · rw [getElem_changeAt]
          split
          · exact h _
          · exact h m
        · exact h m

/-- Legal output units are an invariant of the sound path (R9, R101). -/
theorem outputsLegal_sound : SoundInvariant OutputsLegal where
  blind h hst := fun m => by rw [hst.outputs]; exact h m
  reset := fun m => by
    simp only [State.reset, Fin.getElem_fin, Vector.getElem_replicate]
    exact ⟨Nat.le_refl _, guardLegal_watchGuard⟩
  keeps_outputsWork q core s h := fun m => by
    rw [outputsWork_outputs, getElem_changeAll]
    exact h m
  keeps_evaluateAt := outputsLegal_evaluateAt
  keeps_blockPeaks s h := outputsLegal_changeAll h (fun _ _ hu => hu)
  keeps_outputsRamp mute s h := outputsLegal_changeAll h (fun m u hu =>
    ⟨Nat.le_trans (rampStep_between _ _ _ _).2 (Nat.max_le.2 ⟨hu.1, targetUnder_le mute s m⟩), hu.2⟩)
  keeps_profileWritten n s h := outputsLegal_changeAll h (fun m u hu => by
    split
    · exact ⟨hu.1, guardLegal_fitGuard _ _ hu.2⟩
    · exact hu)
  keeps_outputsSwap s h := outputsLegal_changeAll h (fun m u hu => by
    refine ⟨hu.1, ?_⟩
    dsimp only
    split
    · exact guardLegal_fitGuard _ _ hu.2
    · exact guardLegal_watchGuard)
  keeps_resetGuard m s h := outputsLegal_setGuard h guardLegal_watchGuard
  keeps_resetGuards s h := outputsLegal_changeAll h (fun _ _ hu => ⟨hu.1, guardLegal_watchGuard⟩)
  keeps_outputsLockLoss s h := outputsLegal_changeAll h (fun _ _ hu => ⟨Nat.le_refl _, hu.2⟩)
  keeps_outputsInstall s h := outputsLegal_changeAll h (fun _ _ _ => ⟨Nat.le_refl _, guardLegal_watchGuard⟩)
  keeps_outputsWarmReset s _ := fun m => by
    simp only [outputsWarmReset, Fin.getElem_fin, Vector.getElem_replicate]
    exact ⟨Nat.le_refl _, guardLegal_watchGuard⟩
  keeps_clearCounter := outputsLegal_clearCounter
  keeps_reverbCompute x level s h := by rw [reverbCompute_frame]; exact h
  keeps_reverbClear _ h := h
  keeps_handOff _ _ _ h := h

/-! ### Samples within full scale -/

/-- A pool write of a sample within full scale keeps the pool within it (R66). -/
theorem fullScale_poolWrite (p : Cells Sample) (h : ∀ c ∈ p, fullScale c.2 = true) (a : Nat) (x : Sample)
    (hx : fullScale x = true) : ∀ c ∈ poolWrite p a x, fullScale c.2 = true := by
  intro c hc
  unfold poolWrite at hc
  split at hc
  · rcases mem_write p a x c hc with hc | rfl
    · exact h c hc
    · exact hx
  · exact h c hc

theorem reverbCompute_pool (x : Vector Sample 24) (level : Nat) (s : State) :
    (reverbCompute x level s).reverb.pool = (entries 16).foldl (fun p j =>
      if lineUsed (activeBank s) j then
        poolWrite p ((activeBank s).lines[j].base + s.reverb.position[j]) (lineSample x level s j)
      else p) s.reverb.pool := by
  unfold reverbCompute
  dsimp only
  rw [foldl_frame _ (fun u j => pulseIf_frame _ _ u)]

/-- The sixteen line writes keep the pool within full scale: each writes a saturated sample (R66). -/
theorem fullScale_lineWrites (s : State) (x : Vector Sample 24) (level : Nat) (js : List (Fin 16)) (p : Cells Sample)
    (h : ∀ c ∈ p, fullScale c.2 = true) : ∀ c ∈ js.foldl (fun p j =>
      if lineUsed (activeBank s) j then
        poolWrite p ((activeBank s).lines[j].base + s.reverb.position[j]) (lineSample x level s j)
      else p) p, fullScale c.2 = true := by
  induction js generalizing p with
  | nil => exact h
  | cons j js ih =>
    refine ih _ ?_
    dsimp only
    split
    · exact fullScale_poolWrite p h _ _ (fullScale_sat _)
    · exact h

theorem samplesLegal_reverbCompute (x : Vector Sample 24) (level : Nat) (s : State) (h : SamplesLegal s) :
    SamplesLegal (reverbCompute x level s) := by
  obtain ⟨hp, hf, hb⟩ := h
  refine ⟨?_, ?_, ?_⟩
  · rw [reverbCompute_pool]
    exact fullScale_lineWrites s x level (entries 16) _ hp
  · rw [reverbCompute_frame]; exact hf
  · rw [reverbCompute_frame]; exact hb

/-- An operation that leaves pool and hand-off line leaves them within full scale. -/
theorem samplesLegal_congr {s t : State} (h : SamplesLegal s) (hp : t.reverb.pool = s.reverb.pool)
    (hr : t.ring.handFront = s.ring.handFront) (hb : t.ring.handBack = s.ring.handBack) : SamplesLegal t :=
  ⟨by rw [hp]; exact h.pool, by rw [hr]; exact h.front, by rw [hb]; exact h.back⟩

/-- Samples within full scale are an invariant of the sound path (R6, R66, R95). -/
theorem samplesLegal_sound : SoundInvariant SamplesLegal where
  blind h hst := samplesLegal_congr h hst.pool hst.front hst.back
  reset := ⟨fun c hc => by simp [State.reset] at hc,
    fun m => by simp only [State.reset, Fin.getElem_fin, Vector.getElem_replicate]; decide,
    fun m => by simp only [State.reset, Fin.getElem_fin, Vector.getElem_replicate]; decide⟩
  keeps_outputsWork q core s h := by rw [outputsWork_frame]; exact ⟨h.pool, h.front, h.back⟩
  keeps_evaluateAt s m h := by rw [evaluateAt_frame]; exact ⟨h.pool, h.front, h.back⟩
  keeps_blockPeaks _ h := samplesLegal_congr h rfl rfl rfl
  keeps_outputsRamp _ _ h := samplesLegal_congr h rfl rfl rfl
  keeps_profileWritten _ _ h := samplesLegal_congr h rfl rfl rfl
  keeps_outputsSwap _ h := samplesLegal_congr h rfl rfl rfl
  keeps_resetGuard _ _ h := samplesLegal_congr h rfl rfl rfl
  keeps_resetGuards _ h := samplesLegal_congr h rfl rfl rfl
  keeps_outputsLockLoss _ h := samplesLegal_congr h rfl rfl rfl
  keeps_outputsInstall _ h := samplesLegal_congr h rfl rfl rfl
  keeps_outputsWarmReset _ h := samplesLegal_congr h rfl rfl rfl
  keeps_clearCounter i s h := by
    unfold clearCounter
    split
    · exact samplesLegal_congr h rfl rfl rfl
    · exact samplesLegal_congr h rfl rfl rfl
    · exact samplesLegal_congr h rfl rfl rfl
    · exact samplesLegal_congr h rfl rfl rfl
    · repeat' split
      all_goals exact samplesLegal_congr h rfl rfl rfl
  keeps_reverbCompute := samplesLegal_reverbCompute
  keeps_reverbClear s h := ⟨fun c hc => h.pool c (List.mem_filter.1 hc).1, h.front, h.back⟩
  keeps_handOff q core s h := ⟨h.pool, h.back, fun m => by
    simp only [handOff, Fin.getElem_fin, Vector.getElem_ofFn]
    exact fullScale_sat _⟩

/-- Settles O5: legal output units are an invariant of the sound path. -/
theorem outputsStayLegal : Obligations.OutputsStayLegal := fun _ _ h hs => outputsLegal_sound.keeps_step h hs

/-- Settles O11: every sample written into the pool or the hand-off line comes out of sat(). -/
theorem samplesStayLegal : Obligations.SamplesStayLegal := fun _ _ h hs => samplesLegal_sound.keeps_step h hs

end Sys2Proof.Machine
end

section
/-! The factor table and the ramp: exact rounding row by row, the fall that follows from it, and the distance that a
ramp step closes (R3, R10). -/

namespace Sys2Proof.Machine

/-! ### The factor table (R3) -/

/-- `n` is 65,536 × 10^(−a/320) to the nearest integer: `(2n − 1) / 131,072` to the power 320 is at most 10^(−a), which
is less than `(2n + 1) / 131,072` to that power. -/
def nearestFactor (a n : Nat) : Bool :=
  decide ((2 * n - 1) ^ 320 * 10 ^ a ≤ 131072 ^ 320) && decide (131072 ^ 320 < (2 * n + 1) ^ 320 * 10 ^ a)

theorem nearestFactor_iff (a n : Nat) : nearestFactor a n = true ↔
    (2 * n - 1) ^ 320 * 10 ^ a ≤ 131072 ^ 320 ∧ 131072 ^ 320 < (2 * n + 1) ^ 320 * 10 ^ a := by
  rw [nearestFactor, Bool.and_eq_true, decide_eq_true_iff, decide_eq_true_iff]

/-- A row of the table whose first entry is F(a) is rounded exactly. -/
def nearestRow : Nat → List Nat → Bool
  | _, [] => true
  | a, n :: ns => nearestFactor a n && nearestRow (a + 1) ns

/-- A row rounded exactly is so at every entry. -/
theorem nearestRow_entry {a : Nat} {ns : List Nat} (h : nearestRow a ns = true) {i : Nat} (hi : i < ns.length) :
    nearestFactor (a + i) (ns.getD i 0) = true := by
  induction ns generalizing a i with
  | nil => simp at hi
  | cons n ns ih =>
    simp only [nearestRow, Bool.and_eq_true] at h
    cases i with
    | zero => exact h.1
    | succ i =>
      rw [List.getD_cons_succ, show a + (i + 1) = a + 1 + i by omega]
      exact ih h.2 (by simpa using hi)

/-- The 24 rows before F(1536) hold 64 entries each, rounded exactly. -/
theorem factorRows_nearest : ∀ k : Fin 24,
    (factorRows.getD k.val []).length = 64 ∧ nearestRow (64 * k.val) (factorRows.getD k.val []) = true := by
  decide +kernel

theorem factor_nearest {a : Nat} (h : a < 1536) :
    (2 * factor a - 1) ^ 320 * 10 ^ a ≤ 131072 ^ 320 ∧ 131072 ^ 320 < (2 * factor a + 1) ^ 320 * 10 ^ a := by
  obtain ⟨hlen, hrow⟩ := factorRows_nearest ⟨a / 64, by omega⟩
  have he := nearestRow_entry hrow (i := a % 64) (by rw [hlen]; omega)
  rw [show 64 * (a / 64) + a % 64 = a by omega] at he
  exact (nearestFactor_iff a (factor a)).1 he

theorem factor_zero : factor 0 = 65536 := by decide

theorem factor_silence : factor 1536 = 0 := by decide

/-- The factor never rises: one more unit of attenuation divides 10^(−a) by 10, and the rounding cannot make up for
it. -/
theorem factor_succ_le {a : Nat} (h : a < 1536) : factor (a + 1) ≤ factor a := by
  by_cases hl : a = 1535
  · subst hl
    rw [factor_silence]
    exact Nat.zero_le _
  · have hn := (factor_nearest (a := a + 1) (by omega)).1
    have hm := (factor_nearest h).2
    have hlt : (2 * factor (a + 1) - 1) ^ 320 * 10 ^ a < (2 * factor a + 1) ^ 320 * 10 ^ a := by
      refine Nat.lt_of_le_of_lt (le_trans (Nat.mul_le_mul_left _ ?_) hn) hm
      exact Nat.pow_le_pow_right (by omega) (Nat.le_succ a)
    have := lt_of_pow_lt_pow_left₀ 320 (Nat.zero_le _) (Nat.lt_of_mul_lt_mul_right hlt)
    omega

theorem factor_antitone {a b : Nat} (hab : a ≤ b) (hb : b ≤ 1536) : factor b ≤ factor a := by
  induction b, hab using Nat.le_induction with
  | base => exact Nat.le_refl _
  | succ b _ ih => exact Nat.le_trans (factor_succ_le (by omega)) (ih (by omega))

/-- Up to 872 every unit of attenuation lowers the factor. -/
theorem factor_falls : ∀ a : Fin 872, factor (a.val + 1) ≠ factor a.val := by decide +kernel

/-- The tail of the table: 2 at 1484, then 1 up to 1535. -/
theorem factor_eq_one_iff {a : Nat} (h : a < 1536) : factor a = 1 ↔ 1485 ≤ a := by
  have h1484 : factor 1484 = 2 := by decide
  have h1485 : factor 1485 = 1 := by decide
  have h1535 : factor 1535 = 1 := by decide
  constructor
  · intro h1
    by_contra hlt
    have := factor_antitone (a := a) (b := 1484) (by omega) (by omega)
    omega
  · intro hge
    have hle := factor_antitone hge (by omega)
    have hpos := factor_antitone (a := a) (b := 1535) (by omega) (by omega)
    omega

theorem factor_pos {a : Nat} (h : a < 1536) : 1 ≤ factor a := by
  have h1535 : factor 1535 = 1 := by decide
  have := factor_antitone (a := a) (b := 1535) (by omega) (by omega)
  omega

/-- Unity gain gives the value back (R3, R4). -/
theorem rnd_scaled_zero (x : Int) : rnd (scaled x 0) = x := by
  simp only [rnd, scaled, factor_zero]
  omega

/-- Settles O20: the rows are rounded exactly, and the rest follows from the fall of the factor. -/
theorem factorTableIsExact : Obligations.FactorTableIsExact := by
  refine ⟨factor_zero, factor_silence, fun a _ => factor_nearest a.isLt, fun a => ⟨factor_succ_le a.isLt, ?_⟩,
    fun a hflat => ?_, fun a => factor_eq_one_iff a.isLt, by decide, by decide, fun x => ⟨rnd_scaled_zero x, ?_⟩,
    fun x a hx => ?_⟩
  · exact factor_antitone (Nat.zero_le _) (by omega)
  · by_contra hlt
    exact factor_falls ⟨a.val, by omega⟩ hflat
  · rw [scaled, factor_silence, Nat.cast_zero, mul_zero]
  · have hpos := factor_pos a.isLt
    exact mul_ne_zero hx (by omega)

/-! ### The ramp (R10) -/

/-- How far a current is from its target. -/
def rampDistance (target current : Nat) : Nat := (current - target) + (target - current)

theorem rampDistance_eq_zero {target current : Nat} (h : rampDistance target current = 0) : current = target := by
  unfold rampDistance at h
  omega

/-- A step at rates of at least 1 closes the distance by at least 1, while there is one. -/
theorem rampDistance_rampStep {rise fall : Nat} (hr : 1 ≤ rise) (hf : 1 ≤ fall) (target current : Nat) :
    rampDistance target (rampStep rise fall target current) ≤ rampDistance target current - 1 := by
  unfold rampDistance rampStep
  split
  · omega
  · split <;> omega

theorem rampDistance_iterate {rise fall : Nat} (hr : 1 ≤ rise) (hf : 1 ≤ fall) (target current n : Nat) :
    rampDistance target ((rampStep rise fall target)^[n] current) ≤ rampDistance target current - n := by
  induction n with
  | zero => exact Nat.le_refl _
  | succ n ih =>
    rw [Function.iterate_succ_apply']
    have := rampDistance_rampStep hr hf target ((rampStep rise fall target)^[n] current)
    omega

/-- No step of a ramp leaves the way from its start to its target. -/
theorem rampStep_iterate_between (rise fall target current k : Nat) :
    min current target ≤ (rampStep rise fall target)^[k] current ∧
      (rampStep rise fall target)^[k] current ≤ max current target := by
  induction k with
  | zero => exact ⟨Nat.min_le_left _ _, Nat.le_max_left _ _⟩
  | succ k ih =>
    rw [Function.iterate_succ_apply']
    have := rampStep_between rise fall target ((rampStep rise fall target)^[k] current)
    omega

/-- Settles O21: each step closes the distance by at least 1 and stays on the way. -/
theorem rampReachesItsTarget : Obligations.RampReachesItsTarget := by
  intro rise fall target current n hr hf hn
  refine ⟨rampDistance_eq_zero ?_, rampStep_iterate_between rise fall target current⟩
  have := rampDistance_iterate hr hf target current n
  unfold rampDistance at this ⊢
  omega

end Sys2Proof.Machine
end

section
/-! Words, records and images: what is read from a word of placed fields, each record read back from its words, and the
image of a bank read back table by table (R200, R202). -/

namespace Sys2Proof.Machine

/-! ### Words -/

/-- A field of a built word is the field of the number it was built from. -/
theorem field_word (n lo width : Nat) (h : lo + width ≤ 32) : field (word n) lo width = n / 2 ^ lo % 2 ^ width := by
  have hsplit : (2 : Nat) ^ 32 = 2 ^ lo * 2 ^ (32 - lo) := by rw [← Nat.pow_add]; congr 1; omega
  have hdvd : (2 : Nat) ^ width ∣ 2 ^ (32 - lo) := Nat.pow_dvd_pow 2 (by omega)
  rw [field, word, BitVec.toNat_ofNat, hsplit, Nat.mod_mul_right_div_self, Nat.mod_mod_of_dvd _ hdvd]

@[simp] theorem wordAt_cons_zero (w : Word) (ws : List Word) : wordAt (w :: ws) 0 = w := by
  rw [wordAt, List.getD_cons_zero]

@[simp] theorem wordAt_cons_succ (w : Word) (ws : List Word) (k : Nat) : wordAt (w :: ws) (k + 1) = wordAt ws k := by
  rw [wordAt, List.getD_cons_succ, wordAt]

theorem wordAt_take {ws : List Word} {n k : Nat} (h : k < n) : wordAt (ws.take n) k = wordAt ws k := by
  simp only [wordAt, List.getD_eq_getElem?_getD, List.getElem?_take_of_lt h]

theorem wordAt_drop (ws : List Word) (n k : Nat) : wordAt (ws.drop n) k = wordAt ws (n + k) := by
  simp only [wordAt, List.getD_eq_getElem?_getD, List.getElem?_drop]

theorem word_toNat {n : Nat} (h : n < 4294967296) : (word n).toNat = n := by
  rw [word, BitVec.toNat_ofNat, Nat.mod_eq_of_lt h]

/-- A pair of fields is read back (R200). -/
theorem pairWord_fields {x y : Nat} (hx : x < 65536) (hy : y < 65536) :
    field (pairWord x y) 0 16 = x ∧ field (pairWord x y) 16 16 = y := by
  constructor <;> rw [pairWord, field_word _ _ _ (by decide)] <;> simp only [place, Nat.reducePow] <;> omega

/-! ### Codes -/

/-- The code of an identity is read as that identity, NONE being no number in range (R200). -/
theorem identity?_identityCode {n : Nat} (hn : n ≤ 255) (o : Option (Fin n)) : identity? n (identityCode o) = some o := by
  cases o with
  | none => rfl
  | some i =>
    have := i.isLt
    rw [identity?, identityCode, if_neg (by omega), dif_pos i.isLt]

theorem identityCode_lt {n : Nat} (hn : n ≤ 255) (o : Option (Fin n)) : identityCode o < 256 := by
  cases o with
  | none => exact Nat.lt_succ_self 255
  | some i =>
    have := i.isLt
    rw [identityCode]
    omega

theorem number?_val {n : Nat} (i : Fin n) : number? n i.val = some i := by rw [number?, dif_pos i.isLt]

theorem signOf_code (g : Sign) : signOf (g.code == 1) = g := by cases g <;> rfl

theorem sign_code_lt (g : Sign) : g.code < 2 := by cases g <;> decide

theorem matrixOrder?_code (o : MatrixOrder) : matrixOrder? o.code = some o := by cases o <;> rfl

theorem matrixOrder_code_le (o : MatrixOrder) : o.code ≤ 16 := by cases o <;> decide

/-! ### Records read back from their words -/

theorem decodeInput_encode {r : InputRec} (h : r.Legal) (rest : List Word) :
    decodeInput (encodeInput r ++ rest) = some (r, false) := by
  obtain ⟨slot, att, q, e⟩ := r
  obtain ⟨ha, hq, he⟩ := h
  dsimp only at ha hq he
  have hc := identityCode_lt (n := 128) (by decide) slot
  obtain ⟨h0, h1⟩ : field (word (place 0 8 (identityCode slot) + place 16 16 att)) 0 8 = identityCode slot ∧
      field (word (place 0 8 (identityCode slot) + place 16 16 att)) 16 16 = att := by
    constructor <;> rw [field_word _ _ _ (by decide)] <;> simp only [place, Nat.reducePow] <;> omega
  obtain ⟨h2, h3⟩ := pairWord_fields (x := q) (y := e) (by omega) (by omega)
  simp only [decodeInput, encodeInput, List.cons_append, wordAt_cons_zero, wordAt_cons_succ, h0, h1, h2, h3,
    identity?_identityCode (n := 128) (by decide), Option.map_some]
  simp [ha, hq, he]

theorem decodeInjection_encode {r : InjectionRec} (h : r.Legal) (rest : List Word) :
    decodeInjection (encodeInjection r ++ rest) = some (r, false) := by
  obtain ⟨input, line, att⟩ := r
  have ha : att ≤ 1536 := h
  have hc := identityCode_lt (n := 24) (by decide) input
  have hl := line.isLt
  obtain ⟨h0, h1, h2⟩ :
      field (word (place 0 8 (identityCode input) + place 8 8 line.val + place 16 16 att)) 0 8 = identityCode input ∧
      field (word (place 0 8 (identityCode input) + place 8 8 line.val + place 16 16 att)) 8 8 = line.val ∧
      field (word (place 0 8 (identityCode input) + place 8 8 line.val + place 16 16 att)) 16 16 = att := by
    refine ⟨?_, ?_, ?_⟩ <;> rw [field_word _ _ _ (by decide)] <;> simp only [place, Nat.reducePow] <;> omega
  simp only [decodeInjection, encodeInjection, List.cons_append, wordAt_cons_zero, h0, h1, h2,
    identity?_identityCode (n := 24) (by decide), number?_val]
  simp [ha]

theorem decodeLine_encode {r : LineRec} (h : r.Legal) (rest : List Word) :
    decodeLine (encodeLine r ++ rest) = some (r, false) := by
  obtain ⟨base, length, sign, time, decay, clamp⟩ := r
  obtain ⟨hb, hl, hlo, hhi, hd⟩ := h
  dsimp only at hb hl hlo hhi hd
  have hlen : length < 4294967296 := by
    simp only [lengthOk, Bool.or_eq_true, Bool.and_eq_true, beq_iff_eq, decide_eq_true_eq] at hl
    omega
  have hbase : base < 4294967296 := Nat.lt_trans hb (by decide)
  have hs := sign_code_lt sign
  obtain ⟨h0, h1⟩ : field (word (place 0 16 time + place 16 1 sign.code)) 0 16 = time ∧
      field (word (place 0 16 time + place 16 1 sign.code)) 16 1 = sign.code := by
    constructor <;> rw [field_word _ _ _ (by decide)] <;> simp only [place, Nat.reducePow] <;> omega
  obtain ⟨h2, h3⟩ : field (word (place 0 16 decay + placeBit 16 clamp)) 0 16 = decay ∧
      bitOf (word (place 0 16 decay + placeBit 16 clamp)) 16 = clamp := by
    constructor
    · rw [field_word _ _ _ (by decide)]
      cases clamp <;> simp only [place, placeBit, Nat.reducePow, if_true, if_false, Bool.false_eq_true] <;> omega
    · rw [bitOf, field_word _ _ _ (by decide)]
      cases clamp <;> simp only [place, placeBit, Nat.reducePow, if_true, if_false, Bool.false_eq_true, beq_iff_eq, beq_eq_false_iff_ne] <;>
        omega
  simp only [decodeLine, encodeLine, List.cons_append, wordAt_cons_zero, wordAt_cons_succ, word_toNat hbase,
    word_toNat hlen, h0, h2, h3, clampTo_id _ _ _ hlo hhi]
  simp [hb, hl, hd, bitOf, h1, signOf_code]

/-- A TAPS record whose line and offset are in range (R124). -/
theorem decodeTap_some {ws : List Word} {line : Fin 16} (hl : number? 16 (field (wordAt ws 1) 16 8) = some line)
    (ho : 1 ≤ (wordAt ws 0).toNat ∧ (wordAt ws 0).toNat ≤ 65536) :
    decodeTap ws = some (⟨line, (wordAt ws 0).toNat, signOf (bitOf (wordAt ws 1) 24),
      min (field (wordAt ws 1) 0 16) 1536⟩, decide (1536 < field (wordAt ws 1) 0 16)) := by
  simp only [decodeTap, hl]
  exact if_pos ho

theorem decodeTap_encode {r : TapRec} (h : r.Legal) (rest : List Word) :
    decodeTap (encodeTap r ++ rest) = some (r, false) := by
  obtain ⟨line, offset, sign, att⟩ := r
  obtain ⟨hlo, hhi, ha⟩ := h
  dsimp only at hlo hhi ha
  have hl := line.isLt
  have hs := sign_code_lt sign
  obtain ⟨h0, h1, h2⟩ :
      field (word (place 0 16 att + place 16 8 line.val + place 24 1 sign.code)) 0 16 = att ∧
      field (word (place 0 16 att + place 16 8 line.val + place 24 1 sign.code)) 16 8 = line.val ∧
      field (word (place 0 16 att + place 16 8 line.val + place 24 1 sign.code)) 24 1 = sign.code := by
    refine ⟨?_, ?_, ?_⟩ <;> rw [field_word _ _ _ (by decide)] <;> simp only [place, Nat.reducePow] <;> omega
  have hoff : (word offset).toNat = offset := word_toNat (by omega)
  have w0 : wordAt (encodeTap ⟨line, offset, sign, att⟩ ++ rest) 0 = word offset := by
    rw [encodeTap, List.cons_append, wordAt_cons_zero]
  have w1 : wordAt (encodeTap ⟨line, offset, sign, att⟩ ++ rest) 1 =
      word (place 0 16 att + place 16 8 line.val + place 24 1 sign.code) := by
    rw [encodeTap, List.cons_append, List.cons_append, wordAt_cons_succ, wordAt_cons_zero]
  rw [decodeTap_some (line := line) (by rw [w1, h1, number?_val]) (by rw [w0, hoff]; exact ⟨hlo, hhi⟩), w0, w1, hoff, h0,
    bitOf, h2, signOf_code]
  simp [ha]

/-- An OUTPUTS record whose identities are in range (R124). -/
theorem decodeOutput_some {ws : List Word} {slot : Option (Fin 128)} {profile : Option (Fin 4)}
    (hs : identity? 128 (field (wordAt ws 0) 24 8) = some slot) (hp : identity? 4 (field (wordAt ws 1) 16 8) = some profile)
    (hf : field (wordAt ws 0) 0 16 ≤ 511) :
    decodeOutput ws = some (⟨slot, field (wordAt ws 0) 0 16, min (field (wordAt ws 0) 16 8) 64,
      min (field (wordAt ws 1) 0 16) 1536, profile⟩,
      decide (64 < field (wordAt ws 0) 16 8) || decide (1536 < field (wordAt ws 1) 0 16)) := by
  simp only [decodeOutput, carriedTapCount, hs, hp]
  exact if_pos hf

theorem decodeOutput_encode {r : OutputRec} (h : r.Legal) (rest : List Word) :
    decodeOutput (encodeOutput r ++ rest) = some (r, false) := by
  obtain ⟨slot, first, count, trim, profile⟩ := r
  obtain ⟨hf, hc, ht⟩ := h
  dsimp only at hf hc ht
  have hs := identityCode_lt (n := 128) (by decide) slot
  have hp := identityCode_lt (n := 4) (by decide) profile
  obtain ⟨h0, h1, h2⟩ :
      field (word (place 0 16 first + place 16 8 count + place 24 8 (identityCode slot))) 0 16 = first ∧
      field (word (place 0 16 first + place 16 8 count + place 24 8 (identityCode slot))) 16 8 = count ∧
      field (word (place 0 16 first + place 16 8 count + place 24 8 (identityCode slot))) 24 8 = identityCode slot := by
    refine ⟨?_, ?_, ?_⟩ <;> rw [field_word _ _ _ (by decide)] <;> simp only [place, Nat.reducePow] <;> omega
  obtain ⟨h3, h4⟩ : field (word (place 0 16 trim + place 16 8 (identityCode profile))) 0 16 = trim ∧
      field (word (place 0 16 trim + place 16 8 (identityCode profile))) 16 8 = identityCode profile := by
    constructor <;> rw [field_word _ _ _ (by decide)] <;> simp only [place, Nat.reducePow] <;> omega
  have w0 : wordAt (encodeOutput ⟨slot, first, count, trim, profile⟩ ++ rest) 0 =
      word (place 0 16 first + place 16 8 count + place 24 8 (identityCode slot)) := by
    rw [encodeOutput, List.cons_append, wordAt_cons_zero]
  have w1 : wordAt (encodeOutput ⟨slot, first, count, trim, profile⟩ ++ rest) 1 =
      word (place 0 16 trim + place 16 8 (identityCode profile)) := by
    rw [encodeOutput, List.cons_append, List.cons_append, wordAt_cons_succ, wordAt_cons_zero]
  rw [decodeOutput_some (slot := slot) (profile := profile)
    (by rw [w0, h2, identity?_identityCode (by decide)]) (by rw [w1, h4, identity?_identityCode (by decide)])
    (by rw [w0, h0]; exact hf), w0, w1, h0, h1, h3]
  simp [hc, ht]

theorem decodeProfile_encode {r : ProfileRec} (h : r.Legal) (rest : List Word) :
    decodeProfile (encodeProfile r ++ rest) = some (r, false) := by
  obtain ⟨threshold, samples, sustain, duck, maximum, hold, recovery⟩ := r
  obtain ⟨ht, hsam, ⟨hk1, hk2⟩, ⟨hd1, hd2⟩, ⟨hm1, hm2⟩, ⟨hh1, hh2⟩, hv1, hv2⟩ := h
  dsimp only at *
  obtain ⟨h0, h1⟩ := pairWord_fields (x := threshold) (y := sustain) (by omega) (by omega)
  obtain ⟨h2, h3⟩ := pairWord_fields (x := duck) (y := maximum) (by omega) (by omega)
  obtain ⟨h4, h5⟩ := pairWord_fields (x := hold) (y := recovery) (by omega) (by omega)
  simp only [decodeProfile, encodeProfile, List.cons_append, wordAt_cons_zero, wordAt_cons_succ, h0, h1, h2, h3, h4, h5,
    clampTo_id _ _ _ hk1 hk2, clampTo_id _ _ _ hd1 hd2, clampTo_id _ _ _ hm1 hm2, clampTo_id _ _ _ hh1 hh2,
    clampTo_id _ _ _ hv1 hv2, mkProfile]
  simp [ht, hsam]

/-! ### Scene names -/

/-- A byte of a name word. -/
theorem nameWord_byte {b0 b1 b2 b3 : Nat} (h0 : b0 < 256) (h1 : b1 < 256) (h2 : b2 < 256) (h3 : b3 < 256) {j : Nat}
    (hj : j < 4) : field (word (place 0 8 b0 + place 8 8 b1 + place 16 8 b2 + place 24 8 b3)) (j * 8) 8 =
      [b0, b1, b2, b3].getD j 0 := by
  rw [field_word _ _ _ (by omega)]
  simp only [place, Nat.reducePow]
  interval_cases j <;> simp <;> omega

/-- The sixteen bytes of a name are its characters, and 0 after its end (R200). -/
theorem bytesOf_nameWords {name : List Nat} (h : ∀ i, name.getD i 0 < 256) (rest : List Word) :
    bytesOf (nameWords name ++ rest) = (List.range 16).map (fun i => name.getD i 0) := by
  have byte : ∀ q r, q < 4 → r < 4 →
      field (wordAt (nameWords name ++ rest) q) (r * 8) 8 = name.getD (4 * q + r) 0 := fun q r hq hr => by
    have hw : wordAt (nameWords name ++ rest) q = word (place 0 8 (name.getD (4 * q) 0) +
        place 8 8 (name.getD (4 * q + 1) 0) + place 16 8 (name.getD (4 * q + 2) 0) +
        place 24 8 (name.getD (4 * q + 3) 0)) := by
      simp [wordAt, nameWords, List.getElem?_append, hq]
    rw [hw, nameWord_byte (h _) (h _) (h _) (h _) hr]
    interval_cases r <;> rfl
  refine List.map_congr_left fun i hi => ?_
  have := List.mem_range.1 hi
  rw [byte _ _ (by omega) (Nat.mod_lt _ (by decide)), Nat.div_add_mod]

/-- Sixteen bytes of a name with no character of code 0 end where the name ends. -/
theorem untilEnd_padded {name : List Nat} (hl : name.length ≤ 16) (h : ∀ c ∈ name, c ≠ 0) :
    untilEnd ((List.range 16).map (fun i => name.getD i 0)) = name := by
  have hpad : (List.range 16).map (fun i => name.getD i 0) = name ++ List.replicate (16 - name.length) 0 := by
    refine List.ext_getElem (by simp; omega) fun i h1 h2 => ?_
    by_cases hi : i < name.length
    · simp [hi]
    · simp [hi, List.getElem_append_right (Nat.le_of_not_lt hi)]
  have hname : name.takeWhile (fun c => c != 0) = name := List.takeWhile_eq_self_iff.2 (fun c hc => by simpa using h c hc)
  rw [hpad, untilEnd, List.takeWhile_append, hname, if_pos rfl]
  cases 16 - name.length <;> simp [List.replicate_succ]

theorem nameOf_nameWords {name : List Nat} (hl : name.length ≤ 16) (h : ∀ c ∈ name, 32 ≤ c ∧ c ≤ 126)
    (rest : List Word) : nameOf (nameWords name ++ rest) = (name, false) := by
  have hbyte : ∀ i, name.getD i 0 < 256 := fun i => by
    by_cases hi : i < name.length
    · rw [List.getD_eq_getElem _ _ hi]
      have := h _ (List.getElem_mem hi)
      omega
    · rw [List.getD_eq_default _ _ (by omega)]
      decide
  have hprint : name.map printable = name := by
    conv_rhs => rw [← List.map_id name]
    exact List.map_congr_left fun c hc => if_pos (h c hc)
  have hend := untilEnd_padded hl (fun c hc => by have := h c hc; omega)
  simp only [nameOf, bytesOf_nameWords hbyte rest, hend, hprint, bne_self_eq_false]

theorem decodeGlobals_encode {r : GlobalsRec} (h : r.Legal) (rest : List Word) :
    decodeGlobals (encodeGlobals r ++ rest) = some (r, false) := by
  obtain ⟨order, rise, fall, step, maximum, hold, interval, name⟩ := r
  obtain ⟨⟨hr1, hr2⟩, ⟨hf1, hf2⟩, ⟨hs1, hs2⟩, hm, ⟨hh1, hh2⟩, ⟨hi1, hi2⟩, hlen, hname⟩ := h
  dsimp only at *
  have ho := matrixOrder_code_le order
  obtain ⟨h0, h1, h2, h3⟩ :
      field (word (place 0 8 order.code + place 8 8 rise + place 16 8 fall + place 24 8 step)) 0 8 = order.code ∧
      field (word (place 0 8 order.code + place 8 8 rise + place 16 8 fall + place 24 8 step)) 8 8 = rise ∧
      field (word (place 0 8 order.code + place 8 8 rise + place 16 8 fall + place 24 8 step)) 16 8 = fall ∧
      field (word (place 0 8 order.code + place 8 8 rise + place 16 8 fall + place 24 8 step)) 24 8 = step := by
    refine ⟨?_, ?_, ?_, ?_⟩ <;> rw [field_word _ _ _ (by decide)] <;> simp only [place, Nat.reducePow] <;> omega
  obtain ⟨h4, h5⟩ := pairWord_fields (x := maximum) (y := hold) (by omega) (by omega)
  have h6 : field (word (place 0 16 interval)) 0 16 = interval := by
    rw [field_word _ _ _ (by decide)]; simp only [place, Nat.reducePow]; omega
  simp only [decodeGlobals, encodeGlobals, List.cons_append, List.nil_append, wordAt_cons_zero, wordAt_cons_succ,
    List.drop_succ_cons, List.drop_zero, h0, h1, h2, h3, h4, h5, h6, matrixOrder?_code, Option.map_some,
    nameOf_nameWords hlen hname, clampTo_id _ _ _ hr1 hr2, clampTo_id _ _ _ hf1 hf2, clampTo_id _ _ _ hs1 hs2,
    clampTo_id _ _ _ hh1 hh2, clampTo_id _ _ _ hi1 hi2]
  simp [hm]

/-! ### The image of a bank -/

/-- Records of `n` words each, from entry `i` on. -/
theorem drop_flatMap {α : Type} {f : α → List Word} {n : Nat} (hf : ∀ a, (f a).length = n) (l : List α) (i : Nat) :
    (l.flatMap f).drop (n * i) = (l.drop i).flatMap f := by
  induction i generalizing l with
  | zero => rfl
  | succ i ih =>
    cases l with
    | nil => simp
    | cons a l =>
      rw [List.flatMap_cons, show n * (i + 1) = (f a).length + n * i by rw [hf a]; ring, List.drop_length_add_append, ih]
      rfl

theorem length_table {α : Type} {k n : Nat} {f : α → List Word} (hf : ∀ a, (f a).length = n) (v : Vector α k) :
    (v.toList.flatMap f).length = k * n := by
  have : v.toList.map (fun a => (f a).length) = List.replicate k n := by
    rw [List.eq_replicate_iff]
    exact ⟨by simp, by simp [hf]⟩
  rw [List.length_flatMap, this, List.sum_replicate, smul_eq_mul]

/-- A table whose records are all read from an image is that of the image, whatever stood there (R163). -/
theorem changeAll_overFormer {α : Type} {k : Nat} {former v : Vector α k} {f : Fin k → Treated α}
    (h : ∀ i, f i = some (v[i], false)) : changeAll former (fun i r => overFormer r (f i)) = v := by
  refine Vector.ext fun i hi => ?_
  have := getElem_changeAll former ⟨i, hi⟩ (fun i r => overFormer r (f i))
  rw [h ⟨i, hi⟩] at this
  exact this

/-- A table that stands in an image from word `lo` on is read from it, whatever stood there before. -/
theorem readTable_image {α : Type} {k n lo : Nat} {encode : α → List Word} {decode : List Word → Treated α}
    {former v : Vector α k} {image behind : List Word} (hv : image.drop lo = v.toList.flatMap encode ++ behind)
    (hn : ∀ a, (encode a).length = n) (hread : ∀ (i : Fin k) rest, decode (encode v[i] ++ rest) = some (v[i], false)) :
    changeAll former (fun i r => overFormer r (decode (image.drop (lo + n * i.val)))) = v := by
  refine changeAll_overFormer fun i => ?_
  have hi : i.val < v.toList.length := by simp
  have hlen : n * i.val ≤ (v.toList.flatMap encode).length := by
    rw [length_table hn, Nat.mul_comm k]
    exact Nat.mul_le_mul_left n (Nat.le_of_lt i.isLt)
  rw [← List.drop_drop, hv, List.drop_append_of_le_length hlen, drop_flatMap hn, List.drop_eq_getElem_cons hi,
    List.flatMap_cons, List.append_assoc]
  exact hread i _

/-- The words of an image behind a table. -/
theorem drop_behind {lo n hi : Nat} {image table behind : List Word} (h : image.drop lo = table ++ behind)
    (hn : table.length = n) (hhi : lo + n = hi) : image.drop hi = behind := by
  rw [← hhi, ← List.drop_drop, h, ← hn, List.drop_left]

theorem length_encodeInput (r : InputRec) : (encodeInput r).length = 2 := rfl

theorem length_encodeInjection (r : InjectionRec) : (encodeInjection r).length = 1 := rfl

theorem length_encodeLine (r : LineRec) : (encodeLine r).length = 4 := rfl

theorem length_encodeTap (r : TapRec) : (encodeTap r).length = 2 := rfl

theorem length_encodeOutput (r : OutputRec) : (encodeOutput r).length = 2 := rfl

theorem length_encodeProfile (r : ProfileRec) : (encodeProfile r).length = 3 := rfl

theorem length_encodeGlobals (r : GlobalsRec) : (encodeGlobals r).length = 7 := by simp [encodeGlobals, nameWords]

/-- Reading an image over any bank gives each table of the image's bank (R163, R202). -/
theorem decodeBank_encodeBank {b : Bank} (former : Bank) (hb : b.Legal) : decodeBank former (encodeBank b) = b := by
  have d0 : (encodeBank b).drop 0 = b.inputs.toList.flatMap encodeInput ++ (b.injections.toList.flatMap encodeInjection ++
      (b.lines.toList.flatMap encodeLine ++ (b.taps.toList.flatMap encodeTap ++ (b.outputs.toList.flatMap encodeOutput ++
        (b.profiles.toList.flatMap encodeProfile ++ encodeGlobals b.globals))))) := by
    simp only [List.drop_zero, encodeBank, List.append_assoc]
  have d1 := drop_behind d0 (length_table length_encodeInput b.inputs) (hi := 48) rfl
  have d2 := drop_behind d1 (length_table length_encodeInjection b.injections) (hi := 176) rfl
  have d3 := drop_behind d2 (length_table length_encodeLine b.lines) (hi := 240) rfl
  have d4 := drop_behind d3 (length_table length_encodeTap b.taps) (hi := 1264) rfl
  have d5 := drop_behind d4 (length_table length_encodeOutput b.outputs) (hi := 1328) rfl
  have d6 := drop_behind d5 (length_table length_encodeProfile b.profiles) (hi := 1340) rfl
  have inputs := readTable_image (former := former.inputs) d0 length_encodeInput
    (fun i => decodeInput_encode (hb.inputs i))
  have injections := readTable_image (former := former.injections) d1 length_encodeInjection
    (fun n => decodeInjection_encode (hb.injections n))
  have lines := readTable_image (former := former.lines) d2 length_encodeLine
    (fun j => decodeLine_encode (hb.lines j))
  have taps := readTable_image (former := former.taps) d3 length_encodeTap
    (fun t => decodeTap_encode (hb.taps t))
  have outputs := readTable_image (former := former.outputs) d4 length_encodeOutput
    (fun m => decodeOutput_encode (hb.outputs m))
  have profiles := readTable_image (former := former.profiles) d5 length_encodeProfile
    (fun p => decodeProfile_encode (hb.profiles p))
  have globals := decodeGlobals_encode hb.globals []
  simp only [Nat.zero_add, Nat.one_mul] at inputs injections
  rw [List.append_nil, ← d6] at globals
  rw [decodeBank, inputs, injections, lines, taps, outputs, profiles, globals]
  rfl

theorem length_encodeBank (b : Bank) : (encodeBank b).length = 1347 := by
  simp only [encodeBank, List.length_append, length_table length_encodeInput, length_table length_encodeInjection,
    length_table length_encodeLine, length_table length_encodeTap, length_table length_encodeOutput,
    length_table length_encodeProfile, length_encodeGlobals]

/-- Settles O26: each table stands at its place in the image, and each record is read back from its words. -/
theorem bankImageRoundTrip : Obligations.BankImageRoundTrip := fun b former hb =>
  ⟨length_encodeBank b, decodeBank_encodeBank former hb⟩

end Sys2Proof.Machine
end

section
/-! Each table's record against the field table of R124: which values refuse it, and what every field of a taken record
holds (R124, R125, R200). -/

namespace Sys2Proof.Machine

/-! ### The rules of a table, one at a time -/

theorem forall_rule_cons {a : FieldRule} {l : List FieldRule} {p : Nat → FieldRule → Prop} :
    (∀ k r, (a :: l)[k]? = some r → p k r) ↔ p 0 a ∧ ∀ k r, l[k]? = some r → p (k + 1) r := by
  constructor
  · exact fun h => ⟨h 0 a rfl, fun k r hr => h (k + 1) r hr⟩
  · rintro ⟨h0, hl⟩ k r hr
    cases k with
    | zero => cases hr; exact h0
    | succ k => exact hl k r hr

theorem forall_rule_nil {p : Nat → FieldRule → Prop} : (∀ k r, ([] : List FieldRule)[k]? = some r → p k r) ↔ True :=
  ⟨fun _ => trivial, fun _ k r hr => by simp at hr⟩

theorem exists_rule_cons {a : FieldRule} {l : List FieldRule} {p : Nat → FieldRule → Prop} :
    (∃ k r, (a :: l)[k]? = some r ∧ p k r) ↔ p 0 a ∨ ∃ k r, l[k]? = some r ∧ p (k + 1) r := by
  constructor
  · rintro ⟨k, r, hr, hp⟩
    cases k with
    | zero => cases hr; exact .inl hp
    | succ k => exact .inr ⟨k, r, hr, hp⟩
  · rintro (h | ⟨k, r, hr, hp⟩)
    · exact ⟨0, a, rfl, h⟩
    · exact ⟨k + 1, r, hr, hp⟩

theorem exists_rule_nil {p : Nat → FieldRule → Prop} : (∃ k r, ([] : List FieldRule)[k]? = some r ∧ p k r) ↔ False :=
  ⟨fun ⟨k, r, hr, _⟩ => by simp at hr, False.elim⟩

/-! ### Codes out of a word -/

theorem identity?_none {n x : Nat} (h : ¬ (x < n ∨ x = 255)) : identity? n x = none := by
  rw [identity?, if_neg (fun h' => h (.inr h')), dif_neg (fun h' => h (.inl h'))]

theorem identity?_some {n x : Nat} (h : x < n ∨ x = 255) : ∃ o, identity? n x = some o ∧ identityCode o = x := by
  unfold identity?
  by_cases hx : x = 255
  · exact ⟨none, if_pos hx, hx.symm⟩
  · exact ⟨some ⟨x, h.resolve_right hx⟩, by rw [if_neg hx, dif_pos], rfl⟩

theorem number?_none {n x : Nat} (h : ¬ x < n) : number? n x = none := dif_neg h

theorem number?_some {n x : Nat} (h : x < n) : number? n x = some ⟨x, h⟩ := dif_pos h

theorem field_whole (w : Word) : field w 0 32 = w.toNat := by
  have := w.isLt
  rw [field, Nat.pow_zero, Nat.div_one, Nat.mod_eq_of_lt this]

theorem code_signOf_bitOf (w : Word) (lo : Nat) : (signOf (bitOf w lo)).code = field w lo 1 := by
  have hlt := field_lt w lo 1
  have h01 : field w lo 1 = 0 ∨ field w lo 1 = 1 := by omega
  rw [bitOf]
  rcases h01 with h | h <;> rw [h] <;> rfl

/-! ### A record against the rules of its table -/

/-- A record read from words follows the rules of its table (R124, R125): it is refused where a field does not accept
its value; otherwise every field takes its treated value, and the mark says whether one was changed. `also` holds what
the rules by number leave out. -/
structure FollowsRules {α : Type} (t : BankTable) (ws : List Word) (fieldAt : α → Nat → Nat) (also : α → Prop)
    (d : Treated α) : Prop where
  refused : (∃ r ∈ fieldRules t, ¬ r.accepts (r.carried ws)) → d = none
  taken   : (∀ r ∈ fieldRules t, r.accepts (r.carried ws)) → ∃ a c, d = some (a, c) ∧
    (∀ k r, (fieldRules t)[k]? = some r → fieldAt a k = writtenField t k r ws) ∧ (c = true ↔ RecordClamped t ws) ∧ also a

/-- What a table other than PROFILES writes into a field. -/
theorem writtenField_of_ne {t : BankTable} (ht : t ≠ .profiles) (k : Nat) (r : FieldRule) (ws : List Word) :
    writtenField t k r ws = r.treated (r.carried ws) := if_neg fun h => ht h.1

/-- The record of a table other than GLOBALS is clamped in its fields alone. -/
theorem recordClamped_of_ne {t : BankTable} (ht : t ≠ .globals) (ws : List Word) :
    RecordClamped t ws ↔ ∃ k r, (fieldRules t)[k]? = some r ∧ writtenField t k r ws ≠ r.carried ws :=
  ⟨fun h => h.resolve_right fun h' => ht h'.1, .inl⟩

theorem decodeInput_followsRules (ws : List Word) :
    FollowsRules .inputs ws InputRec.fieldAt (fun _ => True) (decodeInput ws) := by
  have hs := field_lt (wordAt ws 0) 0 8
  constructor
  · intro h
    simp only [fieldRules, List.exists_mem_cons_iff, List.not_mem_nil, false_and, exists_false, or_false, namingField,
      strictField, clampedField, FieldRule.carried, not_true_eq_false] at h
    rw [decodeInput, identity?_none h, Option.map_none]
  · intro h
    simp only [fieldRules, List.forall_mem_cons, namingField, strictField, clampedField, FieldRule.carried] at h
    obtain ⟨slot, hslot, hcode⟩ := identity?_some h.1
    simp only [decodeInput, hslot, Option.map_some]
    refine ⟨_, _, rfl, ?_, ?_, trivial⟩
    · simp only [fieldRules, forall_rule_cons, forall_rule_nil, and_true, writtenField_of_ne (t := .inputs) nofun, InputRec.fieldAt,
        FieldRule.treated, FieldRule.carried, namingField, strictField, clampedField]
      omega
    · simp only [recordClamped_of_ne (t := .inputs) nofun, fieldRules, exists_rule_cons, exists_rule_nil, or_false,
        writtenField_of_ne (t := .inputs) nofun, FieldRule.treated, FieldRule.carried, namingField, strictField,
        clampedField, Bool.or_eq_true, decide_eq_true_eq]
      omega

theorem decodeInjection_followsRules (ws : List Word) :
    FollowsRules .injections ws InjectionRec.fieldAt (fun _ => True) (decodeInjection ws) := by
  have hi := field_lt (wordAt ws 0) 0 8
  have hl := field_lt (wordAt ws 0) 8 8
  constructor
  · intro h
    simp only [fieldRules, List.exists_mem_cons_iff, List.not_mem_nil, false_and, exists_false, or_false, namingField,
      strictField, clampedField, FieldRule.carried, not_true_eq_false] at h
    unfold decodeInjection
    rcases h with h | h
    · simp only [identity?_none h]
    · simp only [number?_none h]
      cases identity? 24 (field (wordAt ws 0) 0 8) <;> rfl
  · intro h
    simp only [fieldRules, List.forall_mem_cons, namingField, strictField, clampedField, FieldRule.carried] at h
    obtain ⟨hinput, hline, -⟩ := h
    obtain ⟨input, hinput, hcode⟩ := identity?_some hinput
    simp only [decodeInjection, hinput, number?_some hline]
    refine ⟨_, _, rfl, ?_, ?_, trivial⟩
    · simp only [fieldRules, forall_rule_cons, forall_rule_nil, and_true, writtenField_of_ne (t := .injections) nofun, InjectionRec.fieldAt,
        FieldRule.treated, FieldRule.carried, namingField, strictField, clampedField]
      omega
    · simp only [recordClamped_of_ne (t := .injections) nofun, fieldRules, exists_rule_cons, exists_rule_nil, or_false,
        writtenField_of_ne (t := .injections) nofun, FieldRule.treated, FieldRule.carried, namingField, strictField,
        clampedField, decide_eq_true_eq]
      omega

theorem lengthOk_iff (x : Nat) : lengthOk x = true ↔ x = 0 ∨ 64 ≤ x ∧ x ≤ 65536 := by
  simp only [lengthOk, Bool.or_eq_true, Bool.and_eq_true, beq_iff_eq, decide_eq_true_eq]

theorem decodeLine_followsRules (ws : List Word) :
    FollowsRules .lines ws LineRec.fieldAt (fun _ => True) (decodeLine ws) := by
  have hb := (wordAt ws 0).isLt
  have hl := (wordAt ws 1).isLt
  have hs := field_lt (wordAt ws 2) 16 1
  constructor
  · intro h
    simp only [fieldRules, List.exists_mem_cons_iff, List.not_mem_nil, false_and, exists_false, or_false, 
      strictField, clampedField, FieldRule.carried, not_true_eq_false, field_whole] at h
    unfold decodeLine
    refine if_neg fun hok => ?_
    simp only [Bool.and_eq_true, decide_eq_true_eq, lengthOk_iff] at hok
    obtain ⟨hbase, hlength⟩ := hok
    rcases h with h | h | h
    · exact h hbase
    · exact h hlength
    · exact h hs
  · intro h
    simp only [fieldRules, List.forall_mem_cons, strictField, clampedField, FieldRule.carried, field_whole] at h
    obtain ⟨hbase, hlength, -⟩ := h
    have hok : (decide ((wordAt ws 0).toNat < Config.poolWords) && lengthOk (wordAt ws 1).toNat) = true := by
      rw [Bool.and_eq_true, decide_eq_true_eq, lengthOk_iff]
      exact ⟨hbase, hlength⟩
    unfold decodeLine
    refine ⟨_, _, if_pos hok, ?_, ?_, trivial⟩
    · simp only [fieldRules, forall_rule_cons, forall_rule_nil, and_true, writtenField_of_ne (t := .lines) nofun, LineRec.fieldAt,
        FieldRule.treated, FieldRule.carried, strictField, clampedField, field_whole,
        code_signOf_bitOf, clampTo]
      omega
    · simp only [recordClamped_of_ne (t := .lines) nofun, fieldRules, exists_rule_cons, exists_rule_nil, or_false,
        writtenField_of_ne (t := .lines) nofun, FieldRule.treated, FieldRule.carried, strictField,
        clampedField, field_whole, clampTo, bne_iff_ne]
      omega

theorem decodeTap_followsRules (ws : List Word) :
    FollowsRules .taps ws TapRec.fieldAt (fun _ => True) (decodeTap ws) := by
  have ho := (wordAt ws 0).isLt
  have hl := field_lt (wordAt ws 1) 16 8
  have hs := field_lt (wordAt ws 1) 24 1
  constructor
  · intro h
    simp only [fieldRules, List.exists_mem_cons_iff, List.not_mem_nil, false_and, exists_false, or_false, 
      strictField, clampedField, FieldRule.carried, not_true_eq_false, field_whole] at h
    unfold decodeTap
    dsimp only
    split
    · rename_i line hline
      refine if_neg fun hok => ?_
      rcases h with h | h | h
      · rw [number?_none h] at hline
        cases hline
      · exact h hok
      · exact h hs
    · rfl
  · intro h
    simp only [fieldRules, List.forall_mem_cons, strictField, clampedField, FieldRule.carried, field_whole] at h
    obtain ⟨hline, hoffset, -⟩ := h
    refine ⟨_, _, decodeTap_some (number?_some hline) hoffset, ?_, ?_, trivial⟩
    · simp only [fieldRules, forall_rule_cons, forall_rule_nil, and_true, writtenField_of_ne (t := .taps) nofun, TapRec.fieldAt,
        FieldRule.treated, FieldRule.carried, strictField, clampedField, field_whole,
        code_signOf_bitOf]
      omega
    · simp only [recordClamped_of_ne (t := .taps) nofun, fieldRules, exists_rule_cons, exists_rule_nil, or_false,
        writtenField_of_ne (t := .taps) nofun, FieldRule.treated, FieldRule.carried, strictField,
        clampedField, decide_eq_true_eq, field_whole]
      omega

theorem decodeOutput_followsRules (ws : List Word) :
    FollowsRules .outputs ws OutputRec.fieldAt (fun _ => True) (decodeOutput ws) := by
  have hs := field_lt (wordAt ws 0) 24 8
  have hf := field_lt (wordAt ws 0) 0 16
  have hp := field_lt (wordAt ws 1) 16 8
  constructor
  · intro h
    simp only [fieldRules, List.exists_mem_cons_iff, List.not_mem_nil, false_and, exists_false, or_false, false_or, namingField,
      strictField, clampedField, FieldRule.carried, not_true_eq_false] at h
    unfold decodeOutput
    dsimp only
    split
    · rename_i slot profile hslot hprofile
      refine if_neg fun hok => ?_
      rcases h with h | h | h
      · rw [identity?_none h] at hslot
        cases hslot
      · exact h hok
      · rw [identity?_none h] at hprofile
        cases hprofile
    · rfl
  · intro h
    simp only [fieldRules, List.forall_mem_cons, namingField, strictField, clampedField, FieldRule.carried] at h
    obtain ⟨hslot, hfirst, -, -, hprofile, -⟩ := h
    obtain ⟨slot, hslot, hslotCode⟩ := identity?_some hslot
    obtain ⟨profile, hprofile, hprofileCode⟩ := identity?_some hprofile
    refine ⟨_, _, decodeOutput_some hslot hprofile hfirst, ?_, ?_, trivial⟩
    · simp only [fieldRules, forall_rule_cons, forall_rule_nil, and_true, writtenField_of_ne (t := .outputs) nofun, OutputRec.fieldAt,
        FieldRule.treated, FieldRule.carried, namingField, strictField, clampedField]
      omega
    · simp only [recordClamped_of_ne (t := .outputs) nofun, fieldRules, exists_rule_cons, exists_rule_nil, or_false,
        writtenField_of_ne (t := .outputs) nofun, FieldRule.treated, FieldRule.carried, namingField, strictField,
        clampedField, Bool.or_eq_true, decide_eq_true_eq]
      omega

/-- What PROFILES writes into a field: the guard maximum is no lower than the clamped duck step (R125). -/
theorem writtenField_profiles (k : Nat) (r : FieldRule) (ws : List Word) : writtenField .profiles k r ws =
    if k = 3 then max (r.treated (r.carried ws)) (max 1 (min (field (wordAt ws 1) 0 16) 192))
    else r.treated (r.carried ws) := by
  simp only [writtenField, true_and]

/-- No field of a PROFILES record is refused; the guard maximum is held above the clamped duck step (R125). -/
theorem decodeProfile_followsRules (ws : List Word) :
    FollowsRules .profiles ws ProfileRec.fieldAt (fun r => r.samples = thresholdSamples r.threshold)
      (decodeProfile ws) := by
  constructor
  · intro h
    simp only [fieldRules, List.exists_mem_cons_iff, List.not_mem_nil, false_and, exists_false, or_false, 
      clampedField, FieldRule.carried, not_true_eq_false] at h
  · intro _
    refine ⟨_, _, rfl, ?_, ?_, rfl⟩
    · simp only [fieldRules, forall_rule_cons, forall_rule_nil, and_true, writtenField_profiles, ProfileRec.fieldAt,
        mkProfile, FieldRule.treated, FieldRule.carried, clampedField, clampTo, Nat.reduceAdd, Nat.reduceEqDiff, reduceIte,
        true_and]
      omega
    · simp only [recordClamped_of_ne (t := .profiles) nofun, fieldRules, exists_rule_cons, exists_rule_nil, or_false,
        writtenField_profiles, FieldRule.treated, FieldRule.carried, clampedField, clampTo, Bool.or_eq_true,
        decide_eq_true_eq, bne_iff_ne, Nat.reduceEqDiff, reduceIte]
      omega

/-! ### Scene names -/

theorem printable_eq_iff (c : Nat) : printable c = c ↔ 32 ≤ c ∧ c ≤ 126 := by
  unfold printable
  split <;> omega

/-- A carried name is marked where one of its characters is not printable (R125). -/
theorem nameOf_marked (ws : List Word) : (nameOf ws).2 = true ↔ ∃ x ∈ nameBytes ws, ¬ (32 ≤ x ∧ x ≤ 126) := by
  have hmap : (nameBytes ws).map printable = nameBytes ws ↔ ∀ x ∈ nameBytes ws, 32 ≤ x ∧ x ≤ 126 := by
    conv_lhs => rhs; rw [← List.map_id (nameBytes ws)]
    simp only [List.map_inj_left, id, printable_eq_iff]
  change ((nameBytes ws).map printable != nameBytes ws) = true ↔ _
  rw [bne_iff_ne, ne_eq, hmap]
  push Not
  rfl

theorem matrixOrder?_none {x : Nat} (h : ¬ (x = 4 ∨ x = 16)) : matrixOrder? x = none := by
  rw [matrixOrder?, if_neg (fun h' => h (.inl h')), if_neg (fun h' => h (.inr h'))]

theorem matrixOrder?_some {x : Nat} (h : x = 4 ∨ x = 16) : ∃ o, matrixOrder? x = some o ∧ o.code = x := by
  rcases h with rfl | rfl
  · exact ⟨.four, rfl, rfl⟩
  · exact ⟨.sixteen, rfl, rfl⟩

theorem decodeGlobals_followsRules (ws : List Word) :
    FollowsRules .globals ws GlobalsRec.fieldAt (fun r => r.name = nameCarried (ws.drop 3)) (decodeGlobals ws) := by
  have ho := field_lt (wordAt ws 0) 0 8
  constructor
  · intro h
    simp only [fieldRules, List.exists_mem_cons_iff, List.not_mem_nil, false_and, exists_false, or_false,
      strictField, clampedField, FieldRule.carried, not_true_eq_false] at h
    simp only [decodeGlobals, matrixOrder?_none h, Option.map_none]
  · intro h
    simp only [fieldRules, List.forall_mem_cons, strictField, FieldRule.carried] at h
    obtain ⟨order, horder, hcode⟩ := matrixOrder?_some h.1
    simp only [decodeGlobals, horder, Option.map_some]
    refine ⟨_, _, rfl, ?_, ?_, rfl⟩
    · simp only [fieldRules, forall_rule_cons, forall_rule_nil, and_true, writtenField_of_ne (t := .globals) nofun,
        GlobalsRec.fieldAt, FieldRule.treated, FieldRule.carried, strictField, clampedField, hcode, clampTo,
        true_and]
      omega
    · simp only [RecordClamped, fieldRules, exists_rule_cons, exists_rule_nil, or_false, true_and,
        writtenField_of_ne (t := .globals) nofun, FieldRule.treated, FieldRule.carried, strictField, clampedField,
        clampTo, Bool.or_eq_true, decide_eq_true_eq, bne_iff_ne, nameOf_marked]
      refine or_congr ?_ Iff.rfl
      omega

end Sys2Proof.Machine
end

section
/-! The write of one record into the pending bank, NODE and AMENDMENTS, and the answered PUT (R124, R166, R184 to
R186). -/

namespace Sys2Proof.Machine

/-! ### Only the words of a record are read -/

theorem decodeInput_take (ws : List Word) : decodeInput (ws.take 2) = decodeInput ws := by
  simp only [decodeInput, wordAt_take (n := 2) (k := 0) (by decide), wordAt_take (n := 2) (k := 1) (by decide)]

theorem decodeInjection_take (ws : List Word) : decodeInjection (ws.take 1) = decodeInjection ws := by
  simp only [decodeInjection, wordAt_take (n := 1) (k := 0) (by decide)]

theorem decodeLine_take (ws : List Word) : decodeLine (ws.take 4) = decodeLine ws := by
  simp only [decodeLine, wordAt_take (n := 4) (k := 0) (by decide), wordAt_take (n := 4) (k := 1) (by decide),
    wordAt_take (n := 4) (k := 2) (by decide), wordAt_take (n := 4) (k := 3) (by decide)]

theorem decodeTap_take (ws : List Word) : decodeTap (ws.take 2) = decodeTap ws := by
  simp only [decodeTap, wordAt_take (n := 2) (k := 0) (by decide), wordAt_take (n := 2) (k := 1) (by decide)]

theorem carriedTapCount_take (ws : List Word) : carriedTapCount (ws.take 2) = carriedTapCount ws := by
  simp only [carriedTapCount, wordAt_take (n := 2) (k := 0) (by decide)]

theorem decodeOutput_take (ws : List Word) : decodeOutput (ws.take 2) = decodeOutput ws := by
  simp only [decodeOutput, carriedTapCount_take, wordAt_take (n := 2) (k := 0) (by decide),
    wordAt_take (n := 2) (k := 1) (by decide)]

theorem decodeProfile_take (ws : List Word) : decodeProfile (ws.take 3) = decodeProfile ws := by
  simp only [decodeProfile, wordAt_take (n := 3) (k := 0) (by decide), wordAt_take (n := 3) (k := 1) (by decide),
    wordAt_take (n := 3) (k := 2) (by decide)]

theorem bytesOf_take (ws : List Word) : bytesOf (ws.take 4) = bytesOf ws := by
  refine List.map_congr_left fun i hi => ?_
  have := List.mem_range.1 hi
  rw [wordAt_take (by omega)]

theorem decodeGlobals_take (ws : List Word) : decodeGlobals (ws.take 7) = decodeGlobals ws := by
  have hname : nameOf ((ws.take 7).drop 3) = nameOf (ws.drop 3) := by
    rw [List.drop_take, nameOf, nameOf, bytesOf_take]
  simp only [decodeGlobals, hname, wordAt_take (n := 7) (k := 0) (by decide), wordAt_take (n := 7) (k := 1) (by decide),
    wordAt_take (n := 7) (k := 2) (by decide)]

theorem decodeAmendment_take (ws : List Word) : decodeAmendment (ws.take 3) = decodeAmendment ws := by
  simp only [decodeAmendment, wordAt_take (n := 3) (k := 0) (by decide), wordAt_take (n := 3) (k := 1) (by decide),
    wordAt_take (n := 3) (k := 2) (by decide)]

theorem writeNode_take (r : NodeRecord) (ws : List Word) : writeNode r (ws.take 2) = writeNode r ws := by
  simp only [writeNode, wordAt_take (n := 2) (k := 0) (by decide), wordAt_take (n := 2) (k := 1) (by decide)]

/-- A record written into a table is read from the words of the record alone (R200). -/
theorem writeTable_take (p : Pointer) (ws : List Word) (s : State) :
    writeTable p (ws.take p.table.words) s = writeTable p ws s := by
  obtain ⟨view, table, index, stride⟩ := p
  cases table with
  | bank t =>
    cases t with
    | inputs => simp only [writeTable, writeBank, TableName.words, decodeInput_take]
    | injections => simp only [writeTable, writeBank, TableName.words, decodeInjection_take]
    | lines => simp only [writeTable, writeBank, TableName.words, decodeLine_take]
    | taps => simp only [writeTable, writeBank, TableName.words, decodeTap_take]
    | outputs => simp only [writeTable, writeBank, TableName.words, decodeOutput_take, carriedTapCount_take]
    | profiles => simp only [writeTable, writeBank, TableName.words, decodeProfile_take]
    | globals => simp only [writeTable, writeBank, TableName.words, writeGlobals, decodeGlobals_take]
  | amendments => simp only [writeTable, writeAmendment, TableName.words, decodeAmendment_take]
  | node => simp only [writeTable, TableName.words, writeNode_take]
  | _ => rfl

/-! ### A PUT of one record -/

/-- One record of any table that can be written fits a payload (R190). -/
theorem malformed_one (p : Pointer) : malformed 1 p = false := by
  obtain ⟨view, table, index, stride⟩ := p
  cases table with
  | bank t => cases t <;> rfl
  | _ => rfl

theorem recordsOf_one (size : Nat) (payload : List Word) : recordsOf size 1 payload = [payload.take size] := by
  simp [recordsOf, List.range_one]

section

variable {h : Header} {s : State} {payload : List Word}

/-- A PUT of one record is the write of its entry (R184). -/
theorem requestOp_put_one (hopen : (pendingTable s.pointer && pendingLocked s) = false)
    (hin : s.pointer.index < s.pointer.table.size) : requestOp (.put 1 payload) s = putRecords [payload] 0 false s := by
  have hend : pastEnd s.pointer = false := decide_eq_false (by omega)
  simp only [requestOp, malformed_one, put, hopen, recordsOf_one, putRecords, hend, writeTable_take, Bool.false_eq_true,
    if_false]

theorem putRecords_one_refused (hin : s.pointer.index < s.pointer.table.size) {code : ResultCode}
    (hw : writeTable s.pointer payload s = .error code) : putRecords [payload] 0 false s = (s, { result := code }) := by
  have hend : pastEnd s.pointer = false := decide_eq_false (by omega)
  simp only [putRecords, hend, hw, Bool.false_eq_true, if_false]

theorem putRecords_one_taken (hin : s.pointer.index < s.pointer.table.size) {u : State} {clamped : Bool}
    (hw : writeTable s.pointer payload s = .ok (u, clamped)) : putRecords [payload] 0 false s =
      (advance u, { result := if clamped then .clamped else .done, count := 1 }) := by
  have hend : pastEnd s.pointer = false := decide_eq_false (by omega)
  simp only [putRecords, hend, hw, Bool.false_eq_true, if_false, Bool.false_or, Nat.zero_add]

/-- A PUT of one record whose write is refused changes nothing (R124, R184). -/
theorem exec_put_refused (hs : Heard h s) (hopen : (pendingTable s.pointer && pendingLocked s) = false)
    (hin : s.pointer.index < s.pointer.table.size) {code : ResultCode}
    (hw : writeTable s.pointer payload s = .error code) :
    exec (.put h 1 payload) s = .next (answered h 2 { result := code } s) := by
  have hop : requestOp (.put 1 payload) s = (s, { result := code }) := by
    rw [requestOp_put_one hopen hin, putRecords_one_refused hin hw]
  rw [exec_request (h := h) (r := .put 1 payload) rfl, handle_of_heard _ hs, serve_of_still] <;> rw [hop]
  · rfl
  · exact fun _ _ => rfl

/-- A PUT of one record that is taken: what the write leaves, with the pointer advanced (R184). -/
theorem exec_put_taken (hs : Heard h s) (hopen : (pendingTable s.pointer && pendingLocked s) = false)
    (hin : s.pointer.index < s.pointer.table.size) {u : State} {clamped : Bool}
    (hw : writeTable s.pointer payload s = .ok (u, clamped)) (hp : u.pointer = s.pointer) (ho : u.out = s.out)
    (hn : u.node.number = s.node.number) (hl : ∀ k, levelHigh u k = levelHigh s k) :
    exec (.put h 1 payload) s = .next (answered h 2 { result := if clamped then .clamped else .done, count := 1 }
      { u with pointer := { s.pointer with index := s.pointer.index + s.pointer.step } }) := by
  have hop : requestOp (.put 1 payload) s =
      (advance u, { result := if clamped then .clamped else .done, count := 1 }) := by
    rw [requestOp_put_one hopen hin, putRecords_one_taken hin hw]
  rw [exec_request (h := h) (r := .put 1 payload) rfl, handle_of_heard _ hs, serve_of_still] <;> rw [hop]
  · rw [← hp]
    rfl
  · exact ho
  · exact hn
  · intro k _
    rw [← hl k]
    cases k <;> rfl

end

/-! ### The write of a record into the pending bank -/

theorem getElem_setAt_of_ne {α : Type} {n : Nat} (t : Vector α n) (i : Fin n) (a : α) {j : Nat} (hj : j < n)
    (h : j ≠ i.val) : (setAt t i a)[j] = t[j] := by
  rw [setAt, Vector.getElem_set_ne _ _ (Ne.symm h)]

theorem getElem_setAt_self {α : Type} {n : Nat} (t : Vector α n) (i : Fin n) (a : α) : (setAt t i a)[i.val] = a := by
  rw [setAt, Vector.getElem_set_self]

/-- A record written into the pending bank is no live write, so nothing but R124 refuses it (R185). -/
theorem writeEntry_pending {α : Type} {k : Nat} {get : Bank → Vector α k} {put : Bank → Vector α k → Bank} {n : BankName}
    {r : α} {clamped : Bool} {equal : α → α → Bool} {merge : α → α → α} {after : Fin k → α → α → State → State} {i : Nat}
    {s : State} (hi : i < k) : writeEntry get put false n (some (r, clamped)) equal merge after i s =
      .ok (after ⟨i, hi⟩ (get (bankOf s n))[i] (merge (get (bankOf s n))[i] r)
        (setBank s n (put (bankOf s n) (setAt (get (bankOf s n)) ⟨i, hi⟩ (merge (get (bankOf s n))[i] r)))), clamped) := by
  simp only [writeEntry, hi, dif_pos, Bool.false_and, Bool.false_eq_true, if_false]
  rfl

/-- What the write of a record into entry `i` of a table of the pending bank gives, where every field accepts its
value (R86, R124, R125). -/
def PendingTaken (t : BankTable) (i : Nat) (ws : List Word) (s : State) (w : Written) : Prop :=
  ∃ c d clamped, w = .ok ({ setBank s (pendingName s) c with decay := d }, clamped) ∧
    (clamped = true ↔ RecordClamped t ws) ∧ RecordTaken t i ws (pendingBank s) c ∧ (t ≠ .lines → d = s.decay) ∧
    ∀ j : Fin 16, t = .lines → i = j.val → d = { s.decay with queue :=
      if c.lines[j].length = (pendingBank s).lines[j].length ∧ c.lines[j].time = (pendingBank s).lines[j].time ∨
        (pendingName s, j) ∈ s.decay.queue
      then s.decay.queue else s.decay.queue ++ [(pendingName s, j)] }

/-! #### The bank with the record taken -/

theorem recordTaken_inputs {b : Bank} {i : Nat} {ws : List Word} {r : InputRec} (hi : i < 24)
    (hf : ∀ k rule, (fieldRules .inputs)[k]? = some rule → r.fieldAt k = writtenField .inputs k rule ws) :
    RecordTaken .inputs i ws b { b with inputs := setAt b.inputs ⟨i, hi⟩ r } where
  fields k rule hr := by
    rw [← hf k rule hr]
    simp only [Bank.fieldAt, hi, dif_pos, getElem_setAt_self b.inputs ⟨i, hi⟩]
  kept := nofun
  others t' i' k hne := by
    cases t' with
    | inputs =>
      have hne' : i' ≠ i := hne.resolve_left (fun h => h rfl)
      simp only [Bank.fieldAt]
      split
      · rw [getElem_setAt_of_ne _ _ _ _ hne']
      · rfl
    | _ => rfl
  name := rfl
  samples _ := (if_neg nofun).symm

theorem recordTaken_injections {b : Bank} {i : Nat} {ws : List Word} {r : InjectionRec} (hi : i < 128)
    (hf : ∀ k rule, (fieldRules .injections)[k]? = some rule → r.fieldAt k = writtenField .injections k rule ws) :
    RecordTaken .injections i ws b { b with injections := setAt b.injections ⟨i, hi⟩ r } where
  fields k rule hr := by
    rw [← hf k rule hr]
    simp only [Bank.fieldAt, hi, dif_pos, getElem_setAt_self b.injections ⟨i, hi⟩]
  kept := nofun
  others t' i' k hne := by
    cases t' with
    | injections =>
      have hne' : i' ≠ i := hne.resolve_left (fun h => h rfl)
      simp only [Bank.fieldAt]
      split
      · rw [getElem_setAt_of_ne _ _ _ _ hne']
      · rfl
    | _ => rfl
  name := rfl
  samples _ := (if_neg nofun).symm

theorem recordTaken_taps {b : Bank} {i : Nat} {ws : List Word} {r : TapRec} (hi : i < 512)
    (hf : ∀ k rule, (fieldRules .taps)[k]? = some rule → r.fieldAt k = writtenField .taps k rule ws) :
    RecordTaken .taps i ws b { b with taps := setAt b.taps ⟨i, hi⟩ r } where
  fields k rule hr := by
    rw [← hf k rule hr]
    simp only [Bank.fieldAt, hi, dif_pos, getElem_setAt_self b.taps ⟨i, hi⟩]
  kept := nofun
  others t' i' k hne := by
    cases t' with
    | taps =>
      have hne' : i' ≠ i := hne.resolve_left (fun h => h rfl)
      simp only [Bank.fieldAt]
      split
      · rw [getElem_setAt_of_ne _ _ _ _ hne']
      · rfl
    | _ => rfl
  name := rfl
  samples _ := (if_neg nofun).symm

theorem recordTaken_outputs {b : Bank} {i : Nat} {ws : List Word} {r : OutputRec} (hi : i < 32)
    (hf : ∀ k rule, (fieldRules .outputs)[k]? = some rule → r.fieldAt k = writtenField .outputs k rule ws) :
    RecordTaken .outputs i ws b { b with outputs := setAt b.outputs ⟨i, hi⟩ r } where
  fields k rule hr := by
    rw [← hf k rule hr]
    simp only [Bank.fieldAt, hi, dif_pos, getElem_setAt_self b.outputs ⟨i, hi⟩]
  kept := nofun
  others t' i' k hne := by
    cases t' with
    | outputs =>
      have hne' : i' ≠ i := hne.resolve_left (fun h => h rfl)
      simp only [Bank.fieldAt]
      split
      · rw [getElem_setAt_of_ne _ _ _ _ hne']
      · rfl
    | _ => rfl
  name := rfl
  samples _ := (if_neg nofun).symm

/-- A LINES record keeps the two computed fields of the record it replaces (R124). -/
theorem recordTaken_lines {b : Bank} {i : Nat} {ws : List Word} {r : LineRec} (hi : i < 16)
    (hf : ∀ k rule, (fieldRules .lines)[k]? = some rule → r.fieldAt k = writtenField .lines k rule ws) :
    RecordTaken .lines i ws b { b with lines := setAt b.lines ⟨i, hi⟩ (keepDecay b.lines[i] r) } where
  fields k rule hr := by
    rw [← hf k rule hr]
    simp only [Bank.fieldAt, hi, dif_pos, getElem_setAt_self b.lines ⟨i, hi⟩]
    have hk : k < 4 := (List.getElem?_eq_some_iff.1 hr).1
    interval_cases k <;> rfl
  kept _ k hk := by
    simp only [Bank.fieldAt, hi, dif_pos, getElem_setAt_self b.lines ⟨i, hi⟩]
    obtain ⟨k, rfl⟩ := Nat.exists_eq_add_of_le' hk
    match k with
    | 0 => rfl
    | 1 => rfl
    | k + 2 => rfl
  others t' i' k hne := by
    cases t' with
    | lines =>
      have hne' : i' ≠ i := hne.resolve_left (fun h => h rfl)
      simp only [Bank.fieldAt]
      split
      · rw [getElem_setAt_of_ne _ _ _ _ hne']
      · rfl
    | _ => rfl
  name := rfl
  samples _ := (if_neg nofun).symm

/-- A PROFILES record is taken with its threshold in samples formed anew (R16). -/
theorem recordTaken_profiles {b : Bank} {i : Nat} {ws : List Word} {r : ProfileRec} (hi : i < 4)
    (hf : ∀ k rule, (fieldRules .profiles)[k]? = some rule → r.fieldAt k = writtenField .profiles k rule ws)
    (hs : r.samples = thresholdSamples r.threshold) :
    RecordTaken .profiles i ws b { b with profiles := setAt b.profiles ⟨i, hi⟩ r } where
  fields k rule hr := by
    rw [← hf k rule hr]
    simp only [Bank.fieldAt, hi, dif_pos, getElem_setAt_self b.profiles ⟨i, hi⟩]
  kept := nofun
  others t' i' k hne := by
    cases t' with
    | profiles =>
      have hne' : i' ≠ i := hne.resolve_left (fun h => h rfl)
      simp only [Bank.fieldAt]
      split
      · rw [getElem_setAt_of_ne _ _ _ _ hne']
      · rfl
    | _ => rfl
  name := rfl
  samples p := by
    rw [getElem_setAt]
    by_cases hp : i = p.val
    · rw [if_pos (Fin.ext hp), if_pos ⟨rfl, hp⟩, hs]
      rfl
    · rw [if_neg (fun h => hp (Fin.ext_iff.1 h)), if_neg (fun h => hp h.2)]

theorem recordTaken_globals {b : Bank} {i : Nat} {ws : List Word} {r : GlobalsRec} (hi : i = 0)
    (hf : ∀ k rule, (fieldRules .globals)[k]? = some rule → r.fieldAt k = writtenField .globals k rule ws)
    (hn : r.name = nameCarried (ws.drop 3)) : RecordTaken .globals i ws b { b with globals := r } where
  fields k rule hr := by
    rw [← hf k rule hr]
    exact if_pos hi
  kept := nofun
  others t' i' k hne := by
    cases t' with
    | globals =>
      have hne' : i' ≠ 0 := fun h => hne.resolve_left (fun h => h rfl) (h.trans hi.symm)
      simp only [Bank.fieldAt, if_neg hne']
    | _ => rfl
  name := hn.trans (if_pos rfl).symm
  samples _ := (if_neg nofun).symm

/-! #### The write -/

theorem setBank_with_decay (s : State) (n : BankName) (b : Bank) :
    setBank s n b = { setBank s n b with decay := s.decay } := by cases n <;> rfl

/-- A field that does not accept its value refuses the record, through either view (R124). -/
theorem writeBank_refused {t : BankTable} {ws : List Word} (h : ∃ r ∈ fieldRules t, ¬ r.accepts (r.carried ws)) (v : View)
    (i : Nat) (s : State) : writeBank t v i ws s = .error .range := by
  cases t with
  | inputs => simp only [writeBank, writeEntry, (decodeInput_followsRules ws).refused h]
  | injections => simp only [writeBank, writeEntry, (decodeInjection_followsRules ws).refused h]
  | lines => simp only [writeBank, writeEntry, (decodeLine_followsRules ws).refused h]
  | taps => simp only [writeBank, writeEntry, (decodeTap_followsRules ws).refused h]
  | outputs => simp only [writeBank, writeEntry, (decodeOutput_followsRules ws).refused h]
  | profiles => simp only [writeBank, writeEntry, (decodeProfile_followsRules ws).refused h]
  | globals => simp only [writeBank, writeGlobals, (decodeGlobals_followsRules ws).refused h]

/-- A changed length or time waits for a recompute, once (R85, R86). -/
theorem lineAfter_decay (n : BankName) (j : Fin 16) (old r : LineRec) (s : State) :
    lineAfter n j old r s = { s with decay := { s.decay with queue :=
      if r.length = old.length ∧ r.time = old.time ∨ (n, j) ∈ s.decay.queue then s.decay.queue
      else s.decay.queue ++ [(n, j)] } } := by
  unfold lineAfter
  by_cases hsame : r.length = old.length ∧ r.time = old.time
  · rw [if_neg (by simp [hsame.1, hsame.2]), if_pos (.inl hsame)]
  · have hdiff : old.length ≠ r.length ∨ old.time ≠ r.time := by
      by_contra hno
      push Not at hno
      exact hsame ⟨hno.1.symm, hno.2.symm⟩
    rw [if_pos hdiff, appendRecompute, appendEntry]
    by_cases hin : (n, j) ∈ s.decay.queue
    · rw [if_pos (by simpa using hin), if_pos (.inr hin)]
    · rw [if_neg (by simpa using hin), if_neg (fun h => h.elim hsame hin)]

theorem writeBank_taken {t : BankTable} {i : Nat} {ws : List Word} (s : State) (hi : i < t.size)
    (h : ∀ r ∈ fieldRules t, r.accepts (r.carried ws)) : PendingTaken t i ws s (writeBank t .pending i ws s) := by
  have plain : ∀ {c : Bank} {clamped : Bool} {w : Written}, w = .ok (setBank s (pendingName s) c, clamped) →
      w = .ok ({ setBank s (pendingName s) c with decay := s.decay }, clamped) := fun hw => by
    rw [← setBank_with_decay]; exact hw
  cases t with
  | inputs =>
    obtain ⟨r, clamped, hd, hf, hc, -⟩ := (decodeInput_followsRules ws).taken h
    refine ⟨_, s.decay, clamped, plain ?_, hc, recordTaken_inputs hi hf, fun _ => rfl, nofun⟩
    rw [writeBank, hd]
    exact writeEntry_pending hi
  | injections =>
    obtain ⟨r, clamped, hd, hf, hc, -⟩ := (decodeInjection_followsRules ws).taken h
    refine ⟨_, s.decay, clamped, plain ?_, hc, recordTaken_injections hi hf, fun _ => rfl, nofun⟩
    rw [writeBank, hd]
    exact writeEntry_pending hi
  | lines =>
    obtain ⟨r, clamped, hd, hf, hc, -⟩ := (decodeLine_followsRules ws).taken h
    have hi' : i < 16 := hi
    refine ⟨_, { s.decay with queue :=
      if r.length = (pendingBank s).lines[i].length ∧ r.time = (pendingBank s).lines[i].time ∨
        (pendingName s, ⟨i, hi'⟩) ∈ s.decay.queue then s.decay.queue else s.decay.queue ++ [(pendingName s, ⟨i, hi'⟩)] },
      clamped, ?_, hc, recordTaken_lines hi' hf, fun hne => absurd rfl hne, fun j _ hj => ?_⟩
    · rw [writeBank, hd]
      refine (writeEntry_pending hi').trans ?_
      rw [lineAfter_decay, setBank_decay]
      rfl
    · subst hj
      simp only [getElem_setAt, if_true]
      rfl
  | taps =>
    obtain ⟨r, clamped, hd, hf, hc, -⟩ := (decodeTap_followsRules ws).taken h
    refine ⟨_, s.decay, clamped, plain ?_, hc, recordTaken_taps hi hf, fun _ => rfl, nofun⟩
    rw [writeBank, hd]
    exact writeEntry_pending hi
  | outputs =>
    obtain ⟨r, clamped, hd, hf, hc, -⟩ := (decodeOutput_followsRules ws).taken h
    refine ⟨_, s.decay, clamped, plain ?_, hc, recordTaken_outputs hi hf, fun _ => rfl, nofun⟩
    rw [writeBank, hd]
    exact writeEntry_pending hi
  | profiles =>
    obtain ⟨r, clamped, hd, hf, hc, hs⟩ := (decodeProfile_followsRules ws).taken h
    refine ⟨_, s.decay, clamped, plain ?_, hc, recordTaken_profiles hi hf hs, fun _ => rfl, nofun⟩
    rw [writeBank, hd]
    exact writeEntry_pending hi
  | globals =>
    obtain ⟨r, clamped, hd, hf, hc, hn⟩ := (decodeGlobals_followsRules ws).taken h
    refine ⟨_, s.decay, clamped, plain ?_, hc, recordTaken_globals (Nat.lt_one_iff.1 hi) hf hn, fun _ => rfl, nofun⟩
    simp only [writeBank, writeGlobals, hd]
    rfl

/-! ### An amendment's value as a write of the field it names -/

/-- The treatment of a value is that of a field's rule (R124, R166). -/
def TreatsAs (c : FieldCheck) (r : FieldRule) (x : Nat) : Prop :=
  (¬ r.accepts x → c = .refused .range) ∧ (r.accepts x → c = .taken (r.treated x))

theorem treatsAs_strict {word lo width x : Nat} {accepts : Nat → Prop} {b : Bool} (hb : b = true ↔ accepts x)
    (hx : x < 4294967296) : TreatsAs (mustBe b x) (strictField word lo width accepts) x := by
  constructor
  · exact fun h => if_neg fun h' => h (hb.1 h')
  · intro h
    have htreated : (strictField word lo width accepts).treated x = x := by
      simp only [FieldRule.treated, strictField]
      omega
    rw [htreated]
    exact if_pos (hb.2 h)

theorem treatsAs_naming {word lo n x : Nat} (hx : x < 4294967296) :
    TreatsAs (mustBe (decide (x < n) || x == 255) x) (namingField word lo n) x :=
  treatsAs_strict (by simp only [Bool.or_eq_true, decide_eq_true_eq, beq_iff_eq]) hx

theorem treatsAs_clamped {word lo width lowest highest x : Nat} :
    TreatsAs (.taken (clampTo lowest highest x)) (clampedField word lo width lowest highest) x :=
  ⟨fun h => absurd trivial h, fun _ => rfl⟩

theorem treatsAs_capped {word lo width highest x : Nat} :
    TreatsAs (.taken (min x highest)) (clampedField word lo width 0 highest) x :=
  ⟨fun h => absurd trivial h, fun _ => by simp only [FieldRule.treated, clampedField, Nat.zero_max]⟩

/-- A value written into a field by an amendment follows the rule of the field (R166). -/
theorem fieldValue_treatsAs (t : BankTable) {x : Nat} (hx : x < 4294967296) :
    ∀ k r, (fieldRules t)[k]? = some r → TreatsAs (fieldValue t k x) r x := by
  cases t with
  | inputs =>
    simp only [fieldRules, forall_rule_cons, forall_rule_nil, and_true]
    exact ⟨treatsAs_naming hx, treatsAs_capped, treatsAs_capped, treatsAs_capped⟩
  | injections =>
    simp only [fieldRules, forall_rule_cons, forall_rule_nil, and_true]
    exact ⟨treatsAs_naming hx, treatsAs_strict decide_eq_true_iff hx, treatsAs_capped⟩
  | lines =>
    simp only [fieldRules, forall_rule_cons, forall_rule_nil, and_true]
    exact ⟨treatsAs_strict decide_eq_true_iff hx, treatsAs_strict (lengthOk_iff x) hx,
      treatsAs_strict decide_eq_true_iff hx, treatsAs_clamped⟩
  | taps =>
    simp only [fieldRules, forall_rule_cons, forall_rule_nil, and_true]
    exact ⟨treatsAs_strict decide_eq_true_iff hx,
      treatsAs_strict (by simp only [Bool.and_eq_true, decide_eq_true_eq]) hx,
      treatsAs_strict decide_eq_true_iff hx, treatsAs_capped⟩
  | outputs =>
    simp only [fieldRules, forall_rule_cons, forall_rule_nil, and_true]
    exact ⟨treatsAs_naming hx, treatsAs_strict decide_eq_true_iff hx, treatsAs_capped, treatsAs_capped,
      treatsAs_naming hx⟩
  | profiles =>
    simp only [fieldRules, forall_rule_cons, forall_rule_nil, and_true]
    exact ⟨treatsAs_capped, treatsAs_clamped, treatsAs_clamped, treatsAs_clamped, treatsAs_clamped, treatsAs_clamped⟩
  | globals =>
    simp only [fieldRules, forall_rule_cons, forall_rule_nil, and_true]
    exact ⟨treatsAs_strict (by simp only [Bool.or_eq_true, beq_iff_eq]) hx, treatsAs_clamped, treatsAs_clamped,
      treatsAs_clamped, treatsAs_capped, treatsAs_clamped, treatsAs_clamped⟩

theorem fieldRules_length_le (t : BankTable) : (fieldRules t).length ≤ t.fields := by cases t <;> decide

/-- The mark of a field with a rule by number is that its value was changed. -/
theorem fieldClamped_of_rule {t : BankTable} {k : Nat} {r : FieldRule} (hr : (fieldRules t)[k]? = some r) (x v : Nat) :
    fieldClamped t k x v = true ↔ v ≠ x := by
  have hk := (List.getElem?_eq_some_iff.1 hr).1
  cases t with
  | globals =>
    have hk' : k < 7 := hk
    rw [fieldClamped, if_neg (by omega), bne_iff_ne]
  | _ => exact bne_iff_ne

/-! ### The AMENDMENTS table -/

theorem bankTable?_code (t : BankTable) : bankTable? t.code = some t := by cases t <;> rfl

theorem bankTable?_none {c : Nat} (h : 7 ≤ c) : bankTable? c = none := by
  unfold bankTable? table?
  by_cases hc : c < 15
  · interval_cases c <;> rfl
  · rw [List.getElem?_eq_none (by simp only [tableList, List.length_cons, List.length_nil]; omega)]

section

variable {ws : List Word}

theorem decodeAmendment_unnamed (h : 16 ≤ field (wordAt ws 0) 8 8 ∧ field (wordAt ws 0) 8 8 ≠ 255 ∨
    7 ≤ field (wordAt ws 0) 16 8) : decodeAmendment ws = .error .range := by
  unfold decodeAmendment
  rcases h with ⟨hlo, hne⟩ | htable
  · simp only [identity?_none (show ¬ (field (wordAt ws 0) 8 8 < 16 ∨ field (wordAt ws 0) 8 8 = 255) by omega)]
  · simp only [bankTable?_none htable]
    cases identity? 16 (field (wordAt ws 0) 8 8) <;> rfl

variable {sector : Option (Fin 16)} {t : BankTable} (hsector : identityCode sector = field (wordAt ws 0) 8 8)
  (htable : t.code = field (wordAt ws 0) 16 8)

include hsector htable

theorem decodeAmendment_outside (h : t.size ≤ field (wordAt ws 1) 0 16 ∨ t.fields ≤ field (wordAt ws 0) 24 8) :
    decodeAmendment ws = .error .range := by
  simp only [decodeAmendment, ← hsector, ← htable, identity?_identityCode (n := 16) (by decide), bankTable?_code]
  exact if_neg (by omega)

theorem decodeAmendment_refused (hi : field (wordAt ws 1) 0 16 < t.size) (hk : field (wordAt ws 0) 24 8 < t.fields)
    {r : ResultCode} (hv : fieldValue t (field (wordAt ws 0) 24 8) (wordAt ws 2).toNat = .refused r) :
    decodeAmendment ws = .error r := by
  simp only [decodeAmendment, ← hsector, ← htable, identity?_identityCode (n := 16) (by decide), bankTable?_code, hv]
  exact if_pos ⟨hi, hk⟩

theorem decodeAmendment_taken (hi : field (wordAt ws 1) 0 16 < t.size) (hk : field (wordAt ws 0) 24 8 < t.fields)
    {v : Nat} (hv : fieldValue t (field (wordAt ws 0) 24 8) (wordAt ws 2).toNat = .taken v) :
    decodeAmendment ws = .ok (⟨bitOf (wordAt ws 0) 0, sector, t, field (wordAt ws 1) 0 16, field (wordAt ws 0) 24 8, v⟩,
      fieldClamped t (field (wordAt ws 0) 24 8) (wordAt ws 2).toNat v) := by
  simp only [decodeAmendment, ← hsector, ← htable, identity?_identityCode (n := 16) (by decide), bankTable?_code, hv]
  exact if_pos ⟨hi, hk⟩

end

theorem changeEntry_val {α : Type} {n : Nat} (v : Vector α n) (i : Fin n) (a : α) :
    changeEntry v i.val (fun _ => a) = setAt v i a := dif_pos i.isLt

/-! ### The answered command -/

/-- A write into the pending bank moves no level: they read the active bank alone (R53). -/
theorem levelHigh_pendingWritten (s : State) (c : Bank) (d : Decay) (k : NoticeKind) :
    levelHigh { setBank s (pendingName s) c with decay := d } k = levelHigh s k := by
  have hactive : activeBank { setBank s (pendingName s) c with decay := d } = activeBank s :=
    activeBank_setBank_pending s c
  apply levelHigh_congr
  · rw [← setBank_ring s (pendingName s) c]
  · intro i
    rw [hactive]
    simp only [setBank_inputs]
  · intro m
    simp only [setBank_outputs]
  · simp only [setBank_backoff]
  · simp only [setBank_engine]
  · simp only [setBank_store]

section

variable {h : Header} {s : State} {payload : List Word}

/-- A PUT of one record that is taken, answered CLAMPED exactly where its write is marked (R124, R184). -/
theorem exec_put_written (hs : Heard h s) (hopen : (pendingTable s.pointer && pendingLocked s) = false)
    (hin : s.pointer.index < s.pointer.table.size) {u : State} {clamped : Bool} {Clamped : Prop}
    (hw : writeTable s.pointer payload s = .ok (u, clamped)) (hc : clamped = true ↔ Clamped)
    (hp : u.pointer = s.pointer) (ho : u.out = s.out) (hn : u.node.number = s.node.number)
    (hl : ∀ k, levelHigh u k = levelHigh s k) :
    ∃ code, (Clamped → code = .clamped) ∧ (¬ Clamped → code = .done) ∧
      exec (.put h 1 payload) s = .next (answered h 2 { result := code, count := 1 }
        { u with pointer := { s.pointer with index := s.pointer.index + s.pointer.step } }) :=
  ⟨_, fun hC => if_pos (hc.2 hC), fun hC => if_neg fun h' => hC (hc.1 h'),
    exec_put_taken hs hopen hin hw hp ho hn hl⟩

/-- A PUT of one record into AMENDMENTS, by what its record is read as (R166). -/
theorem writeTable_amendments {a : Fin 8} (ht : s.pointer.table = .amendments) (hi : s.pointer.index = a.val)
    {r : Amendment} {clamped : Bool} (hd : decodeAmendment payload = .ok (r, clamped)) :
    writeTable s.pointer payload s =
      .ok ({ s with store := { s.store with amendments := setAt s.store.amendments a r } }, clamped) := by
  simp only [writeTable, ht, writeAmendment, hd, hi, changeEntry_val]

theorem writeTable_amendments_refused (ht : s.pointer.table = .amendments) {code : ResultCode}
    (hd : decodeAmendment payload = .error code) : writeTable s.pointer payload s = .error code := by
  simp only [writeTable, ht, writeAmendment, hd]

end

/-- Settles O50: each record follows the rules of its table, and an amendment the rule of the field it names. -/
theorem putTreatsEveryField : Obligations.PutTreatsEveryField := by
  intro h s payload hs
  refine ⟨fun t hfree hview htable hin => ?_, fun htable hin => ?_, fun a htable hin => ?_⟩
  · have hopen : (pendingTable s.pointer && pendingLocked s) = false := by rw [hfree, Bool.and_false]
    have hin' : s.pointer.index < s.pointer.table.size := by rw [htable]; exact hin
    have hw : writeTable s.pointer payload s = writeBank t .pending s.pointer.index payload s := by
      rw [writeTable, htable, ← hview]
    refine ⟨fun hno => ?_, fun hyes => ?_⟩
    · exact exec_put_refused hs hopen hin' (hw.trans (writeBank_refused hno _ _ s))
    · obtain ⟨c, d, clamped, htaken, hc, hrec, hd, hlines⟩ := writeBank_taken s hin hyes
      refine ⟨c, d, ?_, hrec, hd, hlines⟩
      exact exec_put_written hs hopen hin' (hw.trans htaken) hc (setBank_pointer _ _ _) (setBank_out _ _ _)
        (congrArg _ (setBank_node _ _ _)) (levelHigh_pendingWritten s c d)
  · have hopen : (pendingTable s.pointer && pendingLocked s) = false := by rw [pendingTable, htable]; rfl
    have hin' : s.pointer.index < s.pointer.table.size := by rw [htable, hin]; decide
    have hw : writeTable s.pointer payload s =
        .ok ({ s with node := (writeNode s.node payload).1 }, (writeNode s.node payload).2) := by
      rw [writeTable, htable]
    refine exec_put_written hs hopen hin' hw ?_ rfl rfl rfl (fun k => by cases k <;> rfl)
    simp only [writeNode, clampTo, bne_iff_ne]
    omega
  · have hopen : (pendingTable s.pointer && pendingLocked s) = false := by rw [pendingTable, htable]; rfl
    have hin' : s.pointer.index < s.pointer.table.size := by rw [htable, hin]; exact a.isLt
    have refused : ∀ {code}, decodeAmendment payload = .error code →
        exec (.put h 1 payload) s = .next (answered h 2 { result := code } s) := fun hd =>
      exec_put_refused hs hopen hin' (writeTable_amendments_refused htable hd)
    refine ⟨fun hno => refused (decodeAmendment_unnamed hno), fun sector t hsector ht => ⟨fun hout => ?_, ?_, ?_, ?_⟩⟩
    · exact refused (decodeAmendment_outside hsector ht hout)
    · rintro hi rfl hk
      refine refused (decodeAmendment_refused hsector ht hi ?_ ?_)
      · rcases hk with hk | hk <;> rw [hk] <;> decide
      · rcases hk with hk | hk <;> rw [hk] <;> rfl
    · intro r hi hr
      have hx := (wordAt payload 2).isLt
      have hk := Nat.lt_of_lt_of_le (List.getElem?_eq_some_iff.1 hr).1 (fieldRules_length_le t)
      obtain ⟨hno, hyes⟩ := fieldValue_treatsAs t hx _ r hr
      refine ⟨fun hacc => refused (decodeAmendment_refused hsector ht hi hk (hno hacc)), fun hacc => ?_⟩
      exact exec_put_written hs hopen hin'
        (writeTable_amendments htable hin (decodeAmendment_taken hsector ht hi hk (hyes hacc)))
        (fieldClamped_of_rule hr _ _) rfl rfl rfl (fun k => by cases k <;> rfl)
    · rintro hi rfl hlo hhi
      have hk : field (wordAt payload 0) 24 8 < BankTable.globals.fields := Nat.lt_succ_of_le hhi
      have hv : fieldValue .globals (field (wordAt payload 0) 24 8) (wordAt payload 2).toNat =
          .taken (nameWordValue (wordAt payload 2).toNat) := by
        generalize field (wordAt payload 0) 24 8 = k at hlo hhi
        interval_cases k <;> rfl
      refine exec_put_written hs hopen hin'
        (writeTable_amendments htable hin (decodeAmendment_taken hsector ht hi hk hv)) ?_ rfl rfl rfl
        (fun k => by cases k <;> rfl)
      rw [fieldClamped, if_pos hlo]

end Sys2Proof.Machine
end

section
/-! SUPPORT. Which occurrences a run of reports adds to the Notice Unit: the flags it latches, and the queue entries
that stand beside those of its kinds (R192, R195, R196). -/

namespace Sys2Proof.Machine

/-- Notices `m` follow from notices `n` by occurrences of exactly the kinds of `K`; where `offered`, the oldest entry has
left on the way. The entries of other kinds are the same, and so are those behind the first entry. -/
structure Reported (offered : Prop) (K : NoticeKind → Prop) (n m : Notices) : Prop where
  flags : ∀ k, m.flags[k.code] = true ↔ n.flags[k.code] = true ∨ K k
  left  : offered → ∀ ks : List NoticeKind, (∀ k, K k → k ∈ ks) →
    m.queue.filter (fun e => decide (e.kind ∉ ks)) = n.queue.tail.filter (fun e => decide (e.kind ∉ ks))
  kept  : ¬ offered → ∀ ks : List NoticeKind, (∀ k, K k → k ∈ ks) →
    m.queue.filter (fun e => decide (e.kind ∉ ks)) = n.queue.filter (fun e => decide (e.kind ∉ ks)) ∧
    m.queue.tail.filter (fun e => decide (e.kind ∉ ks)) = n.queue.tail.filter (fun e => decide (e.kind ∉ ks))

theorem reported_none (n : Notices) : Reported False (fun _ => False) n n :=
  ⟨fun _ => by rw [or_false], nofun, fun _ _ _ => ⟨rfl, rfl⟩⟩

theorem Reported.congr {p : Prop} {K L : NoticeKind → Prop} {n m : Notices} (h : Reported p K n m) (hk : ∀ k, L k ↔ K k) :
    Reported p L n m := by
  have e : L = K := funext fun k => propext (hk k)
  exact e ▸ h

theorem Reported.trans {p : Prop} {K L : NoticeKind → Prop} {n m l : Notices} (h : Reported p K n m)
    (g : Reported False L m l) : Reported p (fun k => K k ∨ L k) n l := by
  refine ⟨fun k => by rw [g.flags, h.flags, or_assoc], fun hp ks hks => ?_, fun hp ks hks => ?_⟩
  · rw [(g.kept not_false ks fun k hk => hks k (.inr hk)).1]
    exact h.left hp ks fun k hk => hks k (.inl hk)
  · obtain ⟨g1, g2⟩ := g.kept not_false ks fun k hk => hks k (.inr hk)
    obtain ⟨h1, h2⟩ := h.kept hp ks fun k hk => hks k (.inl hk)
    exact ⟨g1.trans h1, g2.trans h2⟩

/-- An occurrence changes no entry of another kind. -/
theorem filter_enqueue (frame : Nat) (k : NoticeKind) (edge : Edge) (q : List NoticeEntry) (ks : List NoticeKind)
    (hk : k ∈ ks) :
    (enqueue frame k edge q).filter (fun e => decide (e.kind ∉ ks)) = q.filter (fun e => decide (e.kind ∉ ks)) := by
  induction q with
  | nil => simp [enqueue, hk]
  | cons e q ih =>
    unfold enqueue
    split
    · next he => simp [he, hk]
    · simp only [List.filter_cons, ih]

/-- An occurrence leaves the entries of other kinds behind the oldest entry. -/
theorem filter_tail_enqueue (frame : Nat) (k : NoticeKind) (edge : Edge) (q : List NoticeEntry) (ks : List NoticeKind)
    (hk : k ∈ ks) :
    (enqueue frame k edge q).tail.filter (fun e => decide (e.kind ∉ ks)) =
      q.tail.filter (fun e => decide (e.kind ∉ ks)) := by
  cases q with
  | nil => rfl
  | cons e q =>
    unfold enqueue
    split
    · rfl
    · exact filter_enqueue frame k edge q ks hk

theorem reported_report (k : NoticeKind) (e : Edge) (s : State) :
    Reported False (· = k) s.notices (report k e s).notices := by
  refine ⟨fun j => ?_, nofun, fun _ ks hks => ?_⟩
  · rw [report_flags]
    by_cases hj : j = k
    · simp [hj]
    · rw [if_neg fun h => hj (code_injective j k h), iff_false_intro hj, or_false]
  · have hk := hks k rfl
    unfold report
    dsimp only
    split
    · exact ⟨filter_enqueue _ k e _ ks hk, filter_tail_enqueue _ k e _ ks hk⟩
    · exact ⟨rfl, rfl⟩

theorem reported_pulseIf (b : Bool) (k : NoticeKind) (s : State) :
    Reported False (fun j => j = k ∧ b = true) s.notices (pulseIf b k s).notices := by
  cases b with
  | false => exact (reported_none _).congr (by simp)
  | true => exact (reported_report k .none s).congr (by simp)

/-- A pulse that each of several entries may bring. -/
theorem reported_foldl_pulseIf {α : Type} (b : α → Bool) (k : NoticeKind) (l : List α) (s : State) {n : Notices}
    (hn : s.notices = n) :
    Reported False (fun j => j = k ∧ ∃ a ∈ l, b a = true) n (l.foldl (fun v a => pulseIf (b a) k v) s).notices := by
  subst hn
  induction l generalizing s with
  | nil => exact (reported_none _).congr (by simp)
  | cons a l ih =>
    refine ((reported_pulseIf (b a) k s).trans (ih (pulseIf (b a) k s))).congr fun j => ?_
    simp only [List.mem_cons, exists_eq_or_imp]
    tauto

theorem levelEdge_eq (was : Bool) (k : NoticeKind) (s : State) :
    levelEdge was k s = if was = levelHigh s k then s else report k (if was then .fall else .rise) s := by
  unfold levelEdge
  cases was <;> cases levelHigh s k <;> rfl

theorem reported_levelEdge (was : Bool) (k : NoticeKind) (s : State) :
    Reported False (fun j => j = k ∧ was ≠ levelHigh s k) s.notices (levelEdge was k s).notices := by
  rw [levelEdge_eq]
  split
  · next h => exact (reported_none _).congr (by simp [h])
  · next h => exact (reported_report k _ s).congr (by simp [h])

/-- The kinds of which an operation reports an edge (R192). -/
def Moves (old new : State) (k : NoticeKind) : Prop := edgeWaits new k = false ∧ levelHigh old k ≠ levelHigh new k

theorem reported_edgeOf (old s : State) (k : NoticeKind) :
    Reported False (fun j => j = k ∧ Moves old s k) s.notices (edgeOf old s k).notices := by
  unfold edgeOf Moves
  split
  · next h => exact (reported_none _).congr (by simp [h])
  · next h => exact (reported_levelEdge _ k s).congr (by simp [h])

/-- A change of the Notice Unit moves no level. -/
theorem moves_notices (old s : State) (n : Notices) (k : NoticeKind) : Moves old { s with notices := n } k ↔ Moves old s k := by
  cases k <;> rfl

theorem reported_foldl_edgeOf (old : State) (l : List NoticeKind) (s : State) :
    Reported False (fun j => j ∈ l ∧ Moves old s j) s.notices (l.foldl (edgeOf old) s).notices := by
  induction l generalizing s with
  | nil => exact (reported_none _).congr (by simp)
  | cons k l ih =>
    refine ((reported_edgeOf old s k).trans (ih (edgeOf old s k))).congr fun j => ?_
    rw [edgeOf_frame, moves_notices, List.mem_cons, or_and_right]
    exact or_congr_left (and_congr_right fun h => h ▸ Iff.rfl)

/-- What an operation's edges add: one occurrence of each level that it moves and that does not wait. -/
theorem reported_edges (old new : State) :
    Reported False (fun k => k ∈ levelKinds ∧ Moves old new k) new.notices (edges old new).notices :=
  reported_foldl_edgeOf old levelKinds new

/-- Levels that stand still or wait give no edges (R192). -/
theorem edges_still (old new : State) (h : ∀ k ∈ levelKinds, ¬ Moves old new k) : edges old new = new := by
  have hf : ∀ l : List NoticeKind, (∀ k ∈ l, ¬ Moves old new k) → l.foldl (edgeOf old) new = new := by
    intro l hl
    induction l with
    | nil => rfl
    | cons k l ih =>
      have hk : edgeOf old new k = new := by
        have hm := hl k List.mem_cons_self
        unfold Moves at hm
        cases hw : edgeWaits new k with
        | true => rw [edgeOf, hw, if_pos rfl]
        | false => exact edgeOf_same old new k (by simpa [hw] using hm)
      rw [List.foldl_cons, hk]
      exact ih fun j hj => hl j (List.mem_cons_of_mem k hj)
  exact hf levelKinds h

/-- The offer of an IDLE cell takes the oldest entry out of the queue (R35). -/
theorem offerIdle_notices (s : State) : (offerIdle s).notices = { s.notices with queue := s.notices.queue.tail } := by
  unfold offerIdle
  split
  · next h => rw [h, List.tail_nil, ← h]
  · next h => rw [h]; rfl

/-- The offer of an IDLE cell writes the Notice Unit and the cell's notice alone. -/
theorem offerIdle_frame (s : State) :
    offerIdle s = { s with
      notices := (offerIdle s).notices, out := { s.out with notice := (offerIdle s).out.notice } } := by
  unfold offerIdle
  split <;> rfl

theorem Reported.pop {K : NoticeKind → Prop} {n m : Notices} (h : Reported False K n m) :
    Reported True K n { m with queue := m.queue.tail } :=
  ⟨h.flags, fun _ ks hks => (h.kept not_false ks hks).2, fun hf => absurd trivial hf⟩

end Sys2Proof.Machine
end

section
/-! The Output Stage and the engine at a block boundary: guards, backoff, currents, and the engine's moves (R98 to
R106, R110, R111, R141, R142, R145). -/

namespace Sys2Proof.Machine

/-! ### What a block boundary makes of the Output Stage -/

/-- The evaluation of an output's guard is a detection that reaches the maximum of its profile (R103). -/
def AtLimit (s : State) (m : Fin 32) : Prop := ∃ p, profileOf (activeBank s) m = some p ∧
  p.sustain ≤ (if p.samples ≤ (s.outputs[m].runningPeak : Int) then s.outputs[m].guard.count + 1 else 0) ∧
  p.maximum ≤ s.outputs[m].guard.g + p.duck

/-- The guard of an output after a block boundary (R101 to R106). -/
def guardNext (s : State) (m : Fin 32) : Guard :=
  match profileOf (activeBank s) m with
  | some p => guardAfter p s.outputs[m].runningPeak s.outputs[m].guard
  | none => s.outputs[m].guard

/-- The target of an output formed with its new guard (R97). -/
def nextTarget (s : State) (m : Fin 32) : Nat :=
  if s.engine.state = .fadeOut ∨ s.engine.state = .clearing ∨ s.ring.lock ≠ .locked ∨
      (activeBank s).outputs[m].slot = none then 1536
  else min ((activeBank s).outputs[m].trim + (guardNext s m).g) 1536

/-- An output after the Output Stage's work of a block boundary (R98). -/
def outputNext (s : State) (m : Fin 32) : OutputUnit :=
  { s.outputs[m] with
    current := steppedToward s (nextTarget s m) s.outputs[m].current
    runningPeak := 0, lastPeak := s.outputs[m].runningPeak, guard := guardNext s m }

/-- The backoff after a block boundary (R110, R111). -/
structure BackoffNext (s : State) (b : Backoff) : Prop where
  still   : (∀ m, ¬ AtLimit s m) → b = backoffCounted s
  limited : (∃ m, AtLimit s m) → b.level ≤ (activeBank s).globals.backoffMaximum ∧
    b.hold = (activeBank s).globals.backoffHold ∧ b.interval = (activeBank s).globals.backoffInterval

/-- The block boundary starts the clearing (R142). -/
def Starts (s : State) : Prop := s.engine.state = .fadeOut ∧ s.engine.quiet = 2 ∧ ∀ m, (outputNext s m).current = 1536

/-- The block boundary ends FADE_IN (R145). -/
def Ends (s : State) : Prop := s.engine.state = .fadeIn ∧ ∀ m, (outputNext s m).current = nextTarget s m

/-- The engine after a block boundary, its quiet run aside (R142, R145). -/
structure EngineNext (s : State) (e : Engine) : Prop where
  starts : Starts s → e = { s.engine with state := .clearing, quiet := e.quiet }
  ends   : Ends s → e = { s.engine with state := .steady, operation := .none, owed := false, quiet := e.quiet }
  stays  : ¬ Starts s → ¬ Ends s → e = { s.engine with quiet := e.quiet }

/-- The occurrences of the Output Stage's and the engine's work of a block boundary that leaves B at `level`. -/
def BoundaryOccurs (s : State) (level : Nat) : NoticeKind → Prop
  | .guardLimit => ∃ m, AtLimit s m
  | .guardActive => ¬ ((∃ m : Fin 32, s.outputs[m].guard.state ≠ .watch) ↔ ∃ m, (guardNext s m).state ≠ .watch)
  | .backoffActive => ¬ (0 < s.backoff.level ↔ 0 < (backoffCounted s).level) ∨
      ¬ (0 < (backoffCounted s).level ↔ 0 < level)
  | .sceneBusy => Ends s
  | .commitDone => Ends s ∧ commitOwed s = true
  | _ => False

theorem not_ends_of_starts {s : State} (h : Starts s) : ¬ Ends s := by
  intro he
  have := h.1.symm.trans he.1
  contradiction

/-- States with the same banks in the same roles have the same active bank. -/
theorem activeBank_congr {s t : State} (h : t.active = s.active) (ha : t.bankA = s.bankA) (hb : t.bankB = s.bankB) :
    activeBank t = activeBank s := by
  unfold activeBank
  rw [h]
  cases s.active <;> simp only [bankOf, ha, hb]

/-! ### The levels that the work of a block boundary may move -/

theorem guardActive_iff (s : State) : guardActive s = true ↔ ∃ m : Fin 32, s.outputs[m].guard.state ≠ .watch := by
  simp [guardActive, entries]

/-- Inside a frame period, an operation that leaves lock and store moves at most three levels. -/
theorem moves_iff {old new : State} (hw : new.marks.missing.isSome = true) (hl : new.ring.lock = old.ring.lock)
    (hs : new.store = old.store) (k : NoticeKind) :
    Moves old new k ↔ k = .guardActive ∧ guardActive old ≠ guardActive new ∨
      k = .backoffActive ∧ ¬ (0 < old.backoff.level ↔ 0 < new.backoff.level) ∨
      k = .sceneBusy ∧ ¬ (old.engine.state = .steady ↔ new.engine.state = .steady) := by
  have hm : edgeWaits new k = (k == .inputMissing) := by rw [edgeWaits, hw, Bool.and_true]
  have he : ∀ e : Engine, (e.state != .steady) = !decide (e.state = .steady) := fun _ => rfl
  rw [Moves, hm]
  cases k <;> simp [levelHigh, hl, hs, he]

/-! ### The backoff's timers -/

theorem someDucked_iff (s : State) : someDucked s = true ↔ ∃ m : Fin 32, s.outputs[m].guard.state = .ducked := by
  simp [someDucked, entries]

theorem backoffStep_backoff (s : State) : (backoffStep s).backoff = backoffCounted s := by
  unfold backoffStep backoffCounted
  simp only [someDucked_iff]
  split
  · rfl
  · next hh =>
    split
    · rfl
    · by_cases hi : s.backoff.interval ≤ 1
      · rw [if_pos hi, if_neg (by omega)]
        simp only [backoffFall, Backoff.mk.injEq, true_and, and_true]
        omega
      · rw [if_neg hi, if_pos (by omega)]

theorem backoffCounted_congr {s t : State} (hb : t.backoff = s.backoff) (ha : activeBank t = activeBank s)
    (hg : ∀ m : Fin 32, t.outputs[m].guard = s.outputs[m].guard) : backoffCounted t = backoffCounted s := by
  unfold backoffCounted
  simp only [hb, ha, hg]

/-! ### The evaluation of the guards -/

/-- The evaluation of an output's guard on its last block peak, where it has a profile. -/
def evaluation (s : State) (m : Fin 32) : Guard :=
  match profileOf (activeBank s) m with
  | some p => evaluated p s.outputs[m]
  | none => s.outputs[m].guard

/-- The evaluation on the last block peak is a detection that reaches the profile's maximum. -/
def Limits (s : State) (m : Fin 32) : Prop := ∃ p, profileOf (activeBank s) m = some p ∧
  detects p s.outputs[m] = true ∧ p.maximum ≤ s.outputs[m].guard.g + p.duck

theorem detected_g_eq_maximum (p : ProfileRec) (g : Guard) : (detected p g).g = p.maximum ↔ p.maximum ≤ g.g + p.duck := by
  unfold detected
  dsimp only
  omega

theorem evaluated_of_detects {p : ProfileRec} {u : OutputUnit} (h : detects p u = true) :
    evaluated p u = detected p u.guard := by
  unfold evaluated
  rw [if_pos h]

theorem limits_iff {s : State} {m : Fin 32} {p : ProfileRec} (h : profileOf (activeBank s) m = some p) :
    Limits s m ↔ detects p s.outputs[m] = true ∧ p.maximum ≤ s.outputs[m].guard.g + p.duck := by
  simp [Limits, h]

theorem setGuard_outputs (m j : Fin 32) (g : Guard) (s : State) :
    (setGuard m g s).outputs[j] = if m = j then { s.outputs[m] with guard := g } else s.outputs[j] :=
  getElem_changeAt s.outputs m j _

/-- The evaluation of one guard without GUARD_LIMIT is its change alone. -/
theorem evaluateAt_of_not_limits {s : State} {m : Fin 32} {p : ProfileRec} (hp : profileOf (activeBank s) m = some p)
    (h : ¬ Limits s m) : evaluateAt s m = setGuard m (evaluated p s.outputs[m]) s := by
  unfold evaluateAt
  rw [hp]
  dsimp only
  split
  · next hd =>
    have hg : ¬ (setGuard m (detected p s.outputs[m].guard) s).outputs[m].guard.g = p.maximum := by
      rw [setGuard_outputs, if_pos rfl, detected_g_eq_maximum]
      exact fun hm => h ((limits_iff hp).2 ⟨hd, hm⟩)
    rw [detectAt, if_neg hg, evaluated_of_detects hd]
  · rfl

/-- The evaluation of one guard that reaches its maximum reports GUARD_LIMIT. -/
theorem evaluateAt_of_limits {s : State} {m : Fin 32} {p : ProfileRec} (hp : profileOf (activeBank s) m = some p)
    (h : Limits s m) : evaluateAt s m = guardLimit (setGuard m (evaluated p s.outputs[m]) s) := by
  obtain ⟨hd, hm⟩ := (limits_iff hp).1 h
  have hg : (setGuard m (detected p s.outputs[m].guard) s).outputs[m].guard.g = p.maximum := by
    rw [setGuard_outputs, if_pos rfl, detected_g_eq_maximum]
    exact hm
  unfold evaluateAt
  rw [hp]
  dsimp only
  rw [if_pos hd, detectAt, if_pos hg, evaluated_of_detects hd]

theorem evaluateAt_of_none {s : State} {m : Fin 32} (hp : profileOf (activeBank s) m = none) : evaluateAt s m = s := by
  unfold evaluateAt
  rw [hp]

theorem not_limits_of_none {s : State} {m : Fin 32} (hp : profileOf (activeBank s) m = none) : ¬ Limits s m := by
  simp [Limits, hp]

/-- The backoff holds at its full hold and interval, B within its maximum, as a GUARD_LIMIT leaves it (R110). -/
def Restarted (g : GlobalsRec) (b : Backoff) : Prop :=
  b.level ≤ g.backoffMaximum ∧ b.hold = g.backoffHold ∧ b.interval = g.backoffInterval

theorem restarted_backoffLimit (g : GlobalsRec) (b : Backoff) : Restarted g (backoffLimit g b) :=
  ⟨Nat.min_le_right _ _, rfl, rfl⟩

/-- State `t` is state `s` after the evaluations of the guards of the outputs of `l`. -/
structure Evaluated (l : List (Fin 32)) (s t : State) : Prop where
  guards  : ∀ m ∈ l, t.outputs[m] = { s.outputs[m] with guard := evaluation s m }
  others  : ∀ m ∉ l, t.outputs[m] = s.outputs[m]
  still   : (∀ m ∈ l, ¬ Limits s m) → t.backoff = s.backoff
  limited : (∃ m ∈ l, Limits s m) → Restarted (activeBank s).globals t.backoff
  notices : Reported False (fun k => k = .guardLimit ∧ ∃ m ∈ l, Limits s m) s.notices t.notices

theorem activeBank_evaluateAt (s : State) (m : Fin 32) : activeBank (evaluateAt s m) = activeBank s := by
  rw [evaluateAt_frame]
  rfl

theorem evaluated_evaluateAt (s : State) (m : Fin 32) : Evaluated [m] s (evaluateAt s m) := by
  cases hp : profileOf (activeBank s) m with
  | none =>
    have hn : ¬ Limits s m := not_limits_of_none hp
    rw [evaluateAt_of_none hp]
    refine ⟨?_, fun _ _ => rfl, fun _ => rfl, ?_, (reported_none _).congr ?_⟩
    · simp [evaluation, hp]
    · simp [hn]
    · simp [hn]
  | some p =>
    have he : evaluation s m = evaluated p s.outputs[m] := by rw [evaluation, hp]
    have ho : ∀ j ∈ [m], (setGuard m (evaluated p s.outputs[m]) s).outputs[j] =
        { s.outputs[j] with guard := evaluation s j } := by
      intro j hj
      rw [List.mem_singleton.1 hj, setGuard_outputs, if_pos rfl, he]
    have hj : ∀ j ∉ [m], (setGuard m (evaluated p s.outputs[m]) s).outputs[j] = s.outputs[j] := by
      intro j hj
      rw [setGuard_outputs, if_neg fun h => hj (List.mem_singleton.2 h.symm)]
    by_cases hl : Limits s m
    · rw [evaluateAt_of_limits hp hl]
      refine ⟨ho, hj, ?_, fun _ => restarted_backoffLimit _ _, ?_⟩
      · simp [hl]
      · refine (reported_report .guardLimit .none _).congr fun k => ?_
        simp [hl]
    · rw [evaluateAt_of_not_limits hp hl]
      refine ⟨ho, hj, fun _ => rfl, ?_, (reported_none _).congr ?_⟩
      · simp [hl]
      · simp [hl]

/-- What an evaluation reads of an output, it finds unchanged by the evaluation of another. -/
theorem evaluation_evaluateAt {s : State} {m j : Fin 32} (h : j ≠ m) : evaluation (evaluateAt s m) j = evaluation s j := by
  unfold evaluation
  rw [activeBank_evaluateAt, (evaluated_evaluateAt s m).others j (by simpa using h)]

theorem limits_evaluateAt {s : State} {m j : Fin 32} (h : j ≠ m) : Limits (evaluateAt s m) j ↔ Limits s j := by
  unfold Limits
  rw [activeBank_evaluateAt, (evaluated_evaluateAt s m).others j (by simpa using h)]

theorem evaluated_foldl (l : List (Fin 32)) (hl : l.Nodup) (s : State) : Evaluated l s (l.foldl evaluateAt s) := by
  induction l generalizing s with
  | nil => exact ⟨nofun, fun _ _ => rfl, fun _ => rfl, nofun, (reported_none _).congr (by simp)⟩
  | cons m l ih =>
    obtain ⟨hm, hl⟩ := List.nodup_cons.1 hl
    have first := evaluated_evaluateAt s m
    have rest := ih hl (evaluateAt s m)
    have hne : ∀ j ∈ l, j ≠ m := fun j hj h => hm (h ▸ hj)
    have hlim : (∃ j ∈ l, Limits (evaluateAt s m) j) ↔ ∃ j ∈ l, Limits s j :=
      exists_congr fun j => and_congr_right fun hj => limits_evaluateAt (hne j hj)
    rw [List.foldl_cons]
    refine ⟨fun j hj => ?_, fun j hj => ?_, fun h => ?_, fun h => ?_, ?_⟩
    · cases List.mem_cons.1 hj with
      | inl he => rw [he, rest.others m hm, first.guards m (List.mem_singleton_self m)]
      | inr hi =>
        rw [rest.guards j hi, evaluation_evaluateAt (hne j hi), first.others j (by simpa using hne j hi)]
    · obtain ⟨h1, h2⟩ := not_or.1 (List.mem_cons.not.1 hj)
      rw [rest.others j h2, first.others j (by simpa using h1)]
    · rw [rest.still fun j hj => (limits_evaluateAt (hne j hj)).not.2 (h j (List.mem_cons_of_mem m hj)),
        first.still fun j hj => h j (List.mem_singleton.1 hj ▸ List.mem_cons_self)]
    · by_cases hr : ∃ j ∈ l, Limits s j
      · rw [← activeBank_evaluateAt s m]
        exact rest.limited (hlim.2 hr)
      · have hmm : Limits s m := by
          obtain ⟨j, hj, hjl⟩ := h
          cases List.mem_cons.1 hj with
          | inl he => exact he ▸ hjl
          | inr hi => exact absurd ⟨j, hi, hjl⟩ hr
        have hn : ∀ j ∈ l, ¬ Limits (evaluateAt s m) j := fun j hj hjl => hr (hlim.1 ⟨j, hj, hjl⟩)
        rw [rest.still hn]
        exact first.limited ⟨m, List.mem_singleton_self m, hmm⟩
    · refine (first.notices.trans rest.notices).congr fun k => ?_
      rw [hlim]
      simp only [List.mem_cons, exists_eq_or_imp, List.not_mem_nil, or_false, and_or_left, exists_eq_left]

/-- The evaluations of a block boundary reach every output once (step 2 of R98). -/
theorem evaluated_evaluateGuards (s : State) : Evaluated (entries 32) s (evaluateGuards s) :=
  evaluated_foldl (entries 32) (List.nodup_finRange 32) s

theorem evaluated_eq_guardAfter (p : ProfileRec) (u : OutputUnit) : evaluated p u = guardAfter p u.lastPeak u.guard := by
  have hd : detects p u = true ↔ p.sustain ≤ sustained p u.lastPeak u.guard.count := decide_eq_true_iff
  have hc : (if p.samples ≤ (u.lastPeak : Int) then u.guard.count + 1 else 0) = sustained p u.lastPeak u.guard.count := rfl
  unfold evaluated guardAfter
  simp only [hd, hc]
  by_cases hs : p.sustain ≤ sustained p u.lastPeak u.guard.count
  · rw [if_pos hs, if_pos hs, detected]
  · rw [if_neg hs, if_neg hs]
    cases u.guard.state with
    | watch => rfl
    | ducked => rfl
    | recovering =>
      dsimp only
      unfold recovered
      by_cases h : u.guard.recovery ≤ 1
      · rw [if_pos h, if_neg (Nat.not_lt.2 h)]
        by_cases hg : u.guard.g ≤ 1
        · rw [if_pos hg, if_neg (Nat.not_lt.2 hg)]
        · rw [if_neg hg, if_pos (Nat.lt_of_not_le hg)]
      · rw [if_neg h, if_pos (Nat.lt_of_not_le h)]

/-! ### Steps 1 and 2 of R98 -/

/-- A block boundary after the backoff's timers. -/
def timersCounted (s : State) : State := withEdges backoffStep (blockPeaks s)

/-- A block boundary after the evaluations of the guards. -/
def guardsEvaluated (s : State) : State := withEdges evaluateGuards (timersCounted s)

theorem backoffStep_blockPeaks (s : State) :
    backoffStep (blockPeaks s) = { s with outputs := (blockPeaks s).outputs, backoff := backoffCounted s } := by
  have hb : (backoffStep (blockPeaks s)).backoff = backoffCounted s := by
    rw [backoffStep_backoff]
    refine backoffCounted_congr (s := s) (t := blockPeaks s) ?_ ?_ fun m => ?_
    · rw [blockPeaks_frame]
    · exact activeBank_congr (by rw [blockPeaks_frame]) (by rw [blockPeaks_frame]) (by rw [blockPeaks_frame])
    · simp only [blockPeaks, getElem_changeAll]
  rw [backoffStep_frame, hb, blockPeaks_frame]

theorem timersCounted_frame (s : State) : timersCounted s =
    { s with outputs := (blockPeaks s).outputs, backoff := backoffCounted s, notices := (timersCounted s).notices } := by
  unfold timersCounted
  rw [withEdges_frame, backoffStep_blockPeaks]

theorem timersCounted_outputs (s : State) (m : Fin 32) : (timersCounted s).outputs[m] =
    { s.outputs[m] with lastPeak := s.outputs[m].runningPeak, runningPeak := 0 } := by
  rw [timersCounted_frame]
  simp only [blockPeaks, getElem_changeAll]

theorem activeBank_timersCounted (s : State) : activeBank (timersCounted s) = activeBank s :=
  activeBank_congr (by rw [timersCounted_frame]) (by rw [timersCounted_frame]) (by rw [timersCounted_frame])

theorem evaluation_timersCounted (s : State) (m : Fin 32) : evaluation (timersCounted s) m = guardNext s m := by
  simp only [evaluation, guardNext, activeBank_timersCounted, timersCounted_outputs, evaluated_eq_guardAfter]

theorem limits_timersCounted (s : State) (m : Fin 32) : Limits (timersCounted s) m ↔ AtLimit s m := by
  simp only [Limits, AtLimit, activeBank_timersCounted, timersCounted_outputs, detects, sustained, decide_eq_true_iff]

theorem guardsEvaluated_frame (s : State) : guardsEvaluated s =
    { s with
      outputs := (guardsEvaluated s).outputs, backoff := (guardsEvaluated s).backoff
      notices := (guardsEvaluated s).notices } := by
  unfold guardsEvaluated
  rw [withEdges_frame, evaluateGuards_frame, timersCounted_frame]

theorem guardsEvaluated_outputs (s : State) (m : Fin 32) : (guardsEvaluated s).outputs[m] =
    { s.outputs[m] with lastPeak := s.outputs[m].runningPeak, runningPeak := 0, guard := guardNext s m } := by
  unfold guardsEvaluated
  rw [withEdges_outputs, (evaluated_evaluateGuards _).guards m (List.mem_finRange m), evaluation_timersCounted,
    timersCounted_outputs]

theorem guardsEvaluated_backoff (s : State) : BackoffNext s (guardsEvaluated s).backoff := by
  have h := evaluated_evaluateGuards (timersCounted s)
  have hb : (guardsEvaluated s).backoff = (evaluateGuards (timersCounted s)).backoff := withEdges_backoff _ _
  rw [hb]
  refine ⟨fun hn => ?_, fun ⟨m, hm⟩ => ?_⟩
  · rw [h.still fun m _ hl => hn m ((limits_timersCounted s m).1 hl), timersCounted_frame]
  · rw [← activeBank_timersCounted]
    exact h.limited ⟨m, List.mem_finRange m, (limits_timersCounted s m).2 hm⟩

theorem guardActive_guardsEvaluated (s : State) :
    guardActive (guardsEvaluated s) = true ↔ ∃ m, (guardNext s m).state ≠ .watch := by
  simp only [guardActive_iff, guardsEvaluated_outputs]

theorem guardActive_timersCounted (s : State) : guardActive (timersCounted s) = guardActive s := by
  rw [Bool.eq_iff_iff, guardActive_iff, guardActive_iff]
  simp only [timersCounted_outputs]

/-- The timers' step moves BACKOFF_ACTIVE alone. -/
theorem moves_timers {s : State} (hm : s.marks.missing.isSome = true) (k : NoticeKind) :
    Moves (blockPeaks s) (backoffStep (blockPeaks s)) k ↔
      k = .backoffActive ∧ ¬ (0 < s.backoff.level ↔ 0 < (backoffCounted s).level) := by
  have hg : guardActive (backoffStep (blockPeaks s)) = guardActive (blockPeaks s) := by
    rw [backoffStep_frame]
    simp only [guardActive]
  rw [moves_iff (by rw [backoffStep_blockPeaks]; exact hm) (by rw [backoffStep_blockPeaks, blockPeaks_frame])
    (by rw [backoffStep_blockPeaks, blockPeaks_frame]), hg, backoffStep_blockPeaks, blockPeaks_frame]
  simp

/-- The evaluations move GUARD_ACTIVE, and BACKOFF_ACTIVE at a GUARD_LIMIT. -/
theorem moves_guards {s : State} (hm : s.marks.missing.isSome = true) (k : NoticeKind) :
    Moves (timersCounted s) (evaluateGuards (timersCounted s)) k ↔
      k = .guardActive ∧ ¬ ((∃ m : Fin 32, s.outputs[m].guard.state ≠ .watch) ↔ ∃ m, (guardNext s m).state ≠ .watch) ∨
      k = .backoffActive ∧ ¬ (0 < (backoffCounted s).level ↔ 0 < (guardsEvaluated s).backoff.level) := by
  have hg : guardActive (evaluateGuards (timersCounted s)) = guardActive (guardsEvaluated s) := by
    simp only [guardActive, guardsEvaluated, withEdges_outputs]
  have hb : (evaluateGuards (timersCounted s)).backoff = (guardsEvaluated s).backoff := (withEdges_backoff _ _).symm
  have he : (evaluateGuards (timersCounted s)).engine = (timersCounted s).engine := by rw [evaluateGuards_frame]
  have hc : (timersCounted s).backoff = backoffCounted s := by rw [timersCounted_frame]
  rw [moves_iff (by rw [evaluateGuards_frame, timersCounted_frame]; exact hm) (by rw [evaluateGuards_frame])
    (by rw [evaluateGuards_frame]), hg, hb, he, hc, guardActive_timersCounted, ne_eq, Bool.eq_iff_iff,
    guardActive_iff s, guardActive_guardsEvaluated]
  simp

/-- The occurrences of steps 1 and 2 of R98. -/
theorem reported_guardsEvaluated {s : State} (hm : s.marks.missing.isSome = true) :
    Reported False (fun k => (k = .guardLimit ∨ k = .guardActive ∨ k = .backoffActive) ∧
      BoundaryOccurs s (guardsEvaluated s).backoff.level k) s.notices (guardsEvaluated s).notices := by
  have timers := reported_edges (blockPeaks s) (backoffStep (blockPeaks s))
  have limits := (evaluated_evaluateGuards (timersCounted s)).notices
  have guards := reported_edges (timersCounted s) (evaluateGuards (timersCounted s))
  have hn : (backoffStep (blockPeaks s)).notices = s.notices := by rw [backoffStep_blockPeaks]
  rw [hn] at timers
  refine ((timers.trans limits).trans guards).congr fun k => ?_
  have hl : (∃ m ∈ entries 32, Limits (timersCounted s) m) ↔ ∃ m, AtLimit s m := by
    simp only [entries, List.mem_finRange, true_and, limits_timersCounted]
  rw [moves_timers hm, moves_guards hm, hl]
  cases k <;> simp [BoundaryOccurs, levelKinds]

/-! ### Steps 3 to 5 of R98 -/

theorem rampStep_eq_steppedToward (s : State) (target current : Nat) :
    rampStep (activeBank s).globals.riseRate (activeBank s).globals.fallRate target current =
      steppedToward s target current := by
  unfold rampStep steppedToward
  split
  · rfl
  · split
    · rfl
    · omega

theorem steppedToward_congr {s t : State} (h : activeBank t = activeBank s) (target current : Nat) :
    steppedToward t target current = steppedToward s target current := by
  simp only [steppedToward, h]

/-- The target of an output, in a state whose guards are evaluated. -/
theorem targetUnder_eq_nextTarget {s t : State} {m : Fin 32} (hb : activeBank t = activeBank s)
    (he : t.engine = s.engine) (hg : t.outputs[m].guard = guardNext s m) :
    targetUnder (lockMute s) t m = nextTarget s m := by
  have hc : (fadeForce t || lockMute s || (activeBank s).outputs[m].slot.isNone) = true ↔
      s.engine.state = .fadeOut ∨ s.engine.state = .clearing ∨ s.ring.lock ≠ .locked ∨
        (activeBank s).outputs[m].slot = none := by
    simp [fadeForce, lockMute, he, or_assoc]
  unfold targetUnder nextTarget composite
  simp only [hb, hg, hc, Config.silence]

/-- A block boundary after the ramp of the output currents. -/
def currentsStepped (s : State) : State := outputsRamp (lockMute s) (guardsEvaluated s)

theorem activeBank_guardsEvaluated (s : State) : activeBank (guardsEvaluated s) = activeBank s :=
  activeBank_congr (by rw [guardsEvaluated_frame]) (by rw [guardsEvaluated_frame]) (by rw [guardsEvaluated_frame])

theorem currentsStepped_frame (s : State) : currentsStepped s =
    { s with
      outputs := (currentsStepped s).outputs, backoff := (guardsEvaluated s).backoff
      notices := (guardsEvaluated s).notices } := by
  unfold currentsStepped
  rw [outputsRamp_frame]
  dsimp only
  rw [guardsEvaluated_frame]

theorem currentsStepped_outputs (s : State) (m : Fin 32) : (currentsStepped s).outputs[m] = outputNext s m := by
  have ht : targetUnder (lockMute s) (guardsEvaluated s) m = nextTarget s m :=
    targetUnder_eq_nextTarget (activeBank_guardsEvaluated s) (by rw [guardsEvaluated_frame])
      (by rw [guardsEvaluated_outputs])
  unfold currentsStepped outputsRamp outputNext
  simp only [getElem_changeAll, ht, activeBank_guardsEvaluated, rampStep_eq_steppedToward, guardsEvaluated_outputs]

theorem activeBank_currentsStepped (s : State) : activeBank (currentsStepped s) = activeBank s :=
  activeBank_congr (by rw [currentsStepped_frame]) (by rw [currentsStepped_frame]) (by rw [currentsStepped_frame])

theorem currentsStepped_engine (s : State) : (currentsStepped s).engine = s.engine := by rw [currentsStepped_frame]

theorem allSilent_iff (s : State) : allSilent s = true ↔ ∀ m : Fin 32, s.outputs[m].current = 1536 := by
  simp [allSilent, entries, Config.silence]

theorem allAtTarget_iff (mute : Bool) (s : State) :
    allAtTarget mute s = true ↔ ∀ m : Fin 32, s.outputs[m].current = targetUnder mute s m := by
  simp [allAtTarget, entries]

theorem clearingDue_currentsStepped (s : State) : clearingDue (currentsStepped s) = true ↔ Starts s := by
  simp only [clearingDue, Bool.and_eq_true, beq_iff_eq, allSilent_iff, currentsStepped_outputs, currentsStepped_engine,
    Starts]
  rw [and_right_comm, and_assoc]

theorem fadeInOver_currentsStepped (s : State) : fadeInOver (lockMute s) (currentsStepped s) = true ↔ Ends s := by
  have ht (m : Fin 32) : targetUnder (lockMute s) (currentsStepped s) m = nextTarget s m :=
    targetUnder_eq_nextTarget (activeBank_currentsStepped s) (currentsStepped_engine s)
      (by rw [currentsStepped_outputs, outputNext])
  simp only [fadeInOver, Bool.and_eq_true, beq_iff_eq, allAtTarget_iff, ht, currentsStepped_outputs,
    currentsStepped_engine, Ends]

/-- State `t` is state `s` after the Output Stage's and the engine's work of a block boundary. -/
structure BoundaryDone (s t : State) : Prop where
  outputs : ∀ m, t.outputs[m] = outputNext s m
  backoff : BackoffNext s t.backoff
  engine  : EngineNext s t.engine
  quiet   : t.engine.quiet = s.engine.quiet
  starts  : Starts s → t.reverb = { s.reverb with clearing := true, clearCount := 0 } ∧
    t.marks = { s.marks with clear := true }
  stays   : ¬ Starts s → t.reverb = s.reverb ∧ t.marks = s.marks
  notices : Reported False (BoundaryOccurs s t.backoff.level) s.notices t.notices

theorem outputsBoundary_eq (s : State) :
    outputsBoundary (lockMute s) s = withEdges (engineBoundary (lockMute s)) (currentsStepped s) := rfl

theorem guardActive_congr {s t : State} (h : t.outputs = s.outputs) : guardActive t = guardActive s := by
  simp only [guardActive, h]

/-- The Notice Unit after the ramp: the occurrences of steps 1 and 2 of R98. -/
theorem reported_currentsStepped {s : State} (hm : s.marks.missing.isSome = true) :
    Reported False (fun k => (k = .guardLimit ∨ k = .guardActive ∨ k = .backoffActive) ∧
      BoundaryOccurs s (currentsStepped s).backoff.level k) s.notices (currentsStepped s).notices := by
  rw [currentsStepped_frame]
  exact reported_guardsEvaluated hm

/-- Step 5 of R98 where the clearing starts: no level moves. -/
theorem withEdges_engineBoundary_of_due {mute : Bool} {s : State} (hm : s.marks.missing.isSome = true)
    (h : clearingDue s = true) : withEdges (engineBoundary mute) s = clearingStart s := by
  have he : engineBoundary mute s = clearingStart s := by
    unfold engineBoundary
    rw [if_pos h]
  have hf : s.engine.state = .fadeOut := by
    simp only [clearingDue, Bool.and_eq_true, beq_iff_eq] at h
    exact h.1.1
  rw [withEdges, he]
  refine edges_still _ _ fun k _ hk => ?_
  rw [moves_iff (old := s) (new := clearingStart s) hm rfl rfl,
    guardActive_congr (t := clearingStart s) (s := s) rfl] at hk
  simp [hf, clearingStart, startClearing] at hk

/-- Step 5 of R98 where FADE_IN ends: SCENE_BUSY falls, and a commit that is owed reports itself done. -/
theorem withEdges_engineBoundary_of_over {mute : Bool} {s : State} (hm : s.marks.missing.isSome = true)
    (h : fadeInOver mute s = true) :
    withEdges (engineBoundary mute) s = { s with
      engine := { s.engine with state := .steady, operation := .none, owed := false }
      notices := (withEdges (engineBoundary mute) s).notices } ∧
    Reported False (fun k => k = .sceneBusy ∨ k = .commitDone ∧ commitOwed s = true) s.notices
      (withEdges (engineBoundary mute) s).notices := by
  have hf : s.engine.state = .fadeIn := by
    simp only [fadeInOver, Bool.and_eq_true, beq_iff_eq] at h
    exact h.1
  have hd : ¬ clearingDue s = true := by simp [clearingDue, hf]
  have he : engineBoundary mute s = fadeInEnd s := by
    unfold engineBoundary
    rw [if_neg hd, if_pos h]
  have hi : fadeInEnd s = { s with
      engine := { s.engine with state := .steady, operation := .none, owed := false }
      notices := (fadeInEnd s).notices } := by
    unfold fadeInEnd
    rw [pulseIf_frame]
    rfl
  refine ⟨?_, ?_⟩
  · rw [withEdges_frame, he, hi]
  · have done := reported_pulseIf (commitOwed s) .commitDone
      (setEngine { s.engine with state := .steady, operation := .none, owed := false } s)
    rw [withEdges, he]
    refine (done.trans (reported_edges s (fadeInEnd s))).congr fun k => ?_
    rw [moves_iff (by rw [hi]; exact hm) (by rw [hi]) (by rw [hi]),
      guardActive_congr (s := s) (t := fadeInEnd s) (by rw [hi]), hi]
    cases k <;> simp [hf, levelKinds]

/-- Step 5 of R98 where the engine stays. -/
theorem withEdges_engineBoundary_of_stays {mute : Bool} {s : State} (hd : ¬ clearingDue s = true)
    (h : ¬ fadeInOver mute s = true) : withEdges (engineBoundary mute) s = s := by
  have he : engineBoundary mute s = s := by
    unfold engineBoundary
    rw [if_neg hd, if_neg h]
  rw [withEdges, he]
  exact edges_same s s fun _ _ => rfl

/-- The Output Stage's and the engine's work of a block boundary (R98). -/
theorem boundaryDone {s : State} (hm : s.marks.missing.isSome = true) :
    BoundaryDone s (outputsBoundary (lockMute s) s) := by
  have hmw : (currentsStepped s).marks.missing.isSome = true := by rw [currentsStepped_frame]; exact hm
  have hb : BackoffNext s (currentsStepped s).backoff := by
    rw [currentsStepped_frame]
    exact guardsEvaluated_backoff s
  have hr : (currentsStepped s).reverb = s.reverb := by rw [currentsStepped_frame]
  have hk : (currentsStepped s).marks = s.marks := by rw [currentsStepped_frame]
  have he := currentsStepped_engine s
  have ho := currentsStepped_outputs s
  have hn := reported_currentsStepped hm
  rw [outputsBoundary_eq]
  have hs := clearingDue_currentsStepped s
  have hi := fadeInOver_currentsStepped s
  generalize currentsStepped s = w at *
  by_cases h : Starts s
  · have hne := not_ends_of_starts h
    rw [withEdges_engineBoundary_of_due hmw (hs.2 h)]
    refine ⟨ho, hb, ⟨fun _ => ?_, fun hx => absurd hx hne, fun hx => absurd h hx⟩, ?_, fun _ => ⟨?_, ?_⟩,
      fun hx => absurd h hx, hn.congr fun k => ?_⟩
    · simp only [clearingStart, startClearing, setEngine, he]
    · simp only [clearingStart, startClearing, setEngine, he]
    · simp only [clearingStart, startClearing, setEngine, hr]
    · simp only [clearingStart, startClearing, setEngine, hk]
    · show BoundaryOccurs s w.backoff.level k ↔ _
      cases k <;> simp [BoundaryOccurs, hne]
  · by_cases hx : Ends s
    · obtain ⟨hf, hr2⟩ := withEdges_engineBoundary_of_over hmw (hi.2 hx)
      have hc : commitOwed w = commitOwed s := by simp only [commitOwed, he]
      refine ⟨?_, ?_, ⟨fun hy => absurd hy h, fun _ => ?_, fun _ hy => absurd hx hy⟩, ?_, fun hy => absurd hy h,
        fun _ => ⟨?_, ?_⟩, (hn.trans hr2).congr fun k => ?_⟩
      · rw [hf]; exact ho
      · rw [hf]; exact hb
      · rw [hf, ← he]
      · rw [hf, ← he]
      · rw [hf]; exact hr
      · rw [hf]; exact hk
      · rw [hf, hc]
        cases k <;> simp [BoundaryOccurs, hx]
    · rw [withEdges_engineBoundary_of_stays (hs.not.2 h) (hi.not.2 hx)]
      refine ⟨ho, hb, ⟨fun hy => absurd hy h, fun hy => absurd hy hx, fun _ _ => he ▸ rfl⟩, by rw [he],
        fun hy => absurd hy h, fun _ => ⟨hr, hk⟩, hn.congr fun k => ?_⟩
      cases k <;> simp [BoundaryOccurs, hx]

/-! ### What the work of a block boundary reads -/

/-- Two states agree in what the Output Stage's and the engine's work of a block boundary reads. -/
structure SameBoundary (s t : State) : Prop where
  bank    : activeBank t = activeBank s
  outputs : t.outputs = s.outputs
  engine  : t.engine = s.engine
  backoff : t.backoff = s.backoff
  lock    : t.ring.lock = s.ring.lock

namespace SameBoundary

variable {s t : State} (h : SameBoundary s t)
include h

theorem guardNext (m : Fin 32) : guardNext t m = guardNext s m := by
  simp only [Machine.guardNext, h.bank, h.outputs]

theorem atLimit (m : Fin 32) : AtLimit t m ↔ AtLimit s m := by
  simp only [AtLimit, h.bank, h.outputs]

theorem nextTarget (m : Fin 32) : nextTarget t m = nextTarget s m := by
  simp only [Machine.nextTarget, h.guardNext, h.bank, h.engine, h.lock]

theorem outputNext (m : Fin 32) : outputNext t m = outputNext s m := by
  simp only [Machine.outputNext, h.guardNext, h.nextTarget, h.outputs, steppedToward_congr h.bank]

theorem backoffCounted : backoffCounted t = backoffCounted s :=
  backoffCounted_congr h.backoff h.bank fun m => by rw [h.outputs]

theorem backoffNext {b : Backoff} (hb : BackoffNext t b) : BackoffNext s b where
  still hn := h.backoffCounted ▸ hb.still fun m hm => hn m ((h.atLimit m).1 hm)
  limited := fun ⟨m, hm⟩ => h.bank ▸ hb.limited ⟨m, (h.atLimit m).2 hm⟩

theorem starts : Starts t ↔ Starts s := by
  simp only [Starts, h.engine, h.outputNext]

theorem ends : Ends t ↔ Ends s := by
  simp only [Ends, h.engine, h.outputNext, h.nextTarget]

theorem engineNext {e : Engine} (he : EngineNext t e) : EngineNext s e where
  starts hs := h.engine ▸ he.starts (h.starts.2 hs)
  ends hs := h.engine ▸ he.ends (h.ends.2 hs)
  stays h1 h2 := h.engine ▸ he.stays (h.starts.not.2 h1) (h.ends.not.2 h2)

theorem boundaryOccurs (level : Nat) (k : NoticeKind) : BoundaryOccurs t level k ↔ BoundaryOccurs s level k := by
  cases k <;>
    simp only [BoundaryOccurs, h.atLimit, h.guardNext, h.outputs, h.backoff, h.backoffCounted, h.ends, commitOwed, h.engine]

end SameBoundary

end Sys2Proof.Machine
end

section
/-! The per-sample work of a frame period that installs nothing: what it leaves of the inputs, the core, the Output
Stage, the capture and the engine (R41 to R48, R77, R95, R141, R172, R177). -/

namespace Sys2Proof.Machine

/-! ### The Reverberation Core -/

/-- The core's work leaves every current, and of a clearing it counts the frame period alone. -/
theorem reverbWork_reverb (x : Vector Sample 24) (level : Nat) (s : State) :
    (reverbWork x level s).reverb.injectionCurrent = s.reverb.injectionCurrent ∧
    (reverbWork x level s).reverb.lineCurrent = s.reverb.lineCurrent ∧
    (reverbWork x level s).reverb.tapCurrent = s.reverb.tapCurrent ∧
    (reverbWork x level s).reverb.clearing = s.reverb.clearing ∧
    (reverbWork x level s).reverb.clearCount =
      if clearingPeriod s then s.reverb.clearCount + 1 else s.reverb.clearCount := by
  unfold reverbWork
  split
  · exact ⟨rfl, rfl, rfl, rfl, rfl⟩
  · unfold reverbCompute
    dsimp only
    rw [foldl_frame _ (fun u j => pulseIf_frame _ _ u)]
    exact ⟨rfl, rfl, rfl, rfl, rfl⟩

theorem reported_reverbWork (x : Vector Sample 24) (level : Nat) (s : State) :
    ∃ p, Reported False (fun k => k = .clip ∧ p) s.notices (reverbWork x level s).notices := by
  unfold reverbWork
  split
  · exact ⟨False, (reported_none _).congr (by simp)⟩
  · exact ⟨_, reported_foldl_pulseIf _ .clip _ _ rfl⟩

/-! ### The Output Stage and the generator -/

theorem reported_outputsWork (q : Vector Sample 32) (core s : State) :
    ∃ p, Reported False (fun k => k = .clip ∧ p) s.notices (outputsWork q core s).notices :=
  ⟨_, reported_foldl_pulseIf _ .clip _ _ rfl⟩

/-- The per-sample work of an output forms its running peak and counts its clips alone. -/
theorem outputsWork_output (q : Vector Sample 32) (core s : State) (m : Fin 32) :
    (outputsWork q core s).outputs[m] = { s.outputs[m] with
      runningPeak := (outputsWork q core s).outputs[m].runningPeak, clips := (outputsWork q core s).outputs[m].clips } := by
  rw [outputsWork_outputs]
  simp only [getElem_changeAll]

theorem burstSample_eq_expectedBurst (g : Generator) : burstSample g = expectedBurst g := by
  unfold burstSample expectedBurst noiseValue nextNoise scaled
  cases g.kind with
  | impulse => rfl
  | noise =>
    dsimp only
    by_cases h : (1664525 * g.noise + 1013904223) % 4294967296 / 256 < 8388608
    · rw [if_pos h, if_neg (Nat.not_le.2 h)]
    · rw [if_neg h, if_pos (Nat.not_lt.1 h)]

theorem generatorSamples_eq (s : State) (m : Fin 32) : (generatorSamples s.gen)[m] = expectedGenerator s m := by
  have hc : m = s.gen.target ↔ s.gen.target = m := eq_comm
  simp [generatorSamples, expectedGenerator, burstSample_eq_expectedBurst, hc]

/-- The quiet run counts a frame period in which every current is 1536 and the generator gives 0 (R141). -/
def quietNext (s t : State) : Nat :=
  if ∀ m : Fin 32, t.outputs[m].current = 1536 ∧ expectedGenerator s m = 0 then min (t.engine.quiet + 1) 2 else 0

theorem quietAfter_eq_quietNext (s t : State) : quietAfter (generatorSamples s.gen) t = quietNext s t := by
  have h : (allSilent t && (entries 32).all (fun m => (generatorSamples s.gen)[m] == 0)) = true ↔
      ∀ m : Fin 32, t.outputs[m].current = 1536 ∧ expectedGenerator s m = 0 := by
    simp only [Bool.and_eq_true, allSilent_iff, List.all_eq_true, beq_iff_eq, generatorSamples_eq, entries,
      List.mem_finRange, true_implies, forall_and]
  unfold quietAfter quietNext
  simp only [h]

theorem quietNext_congr (s : State) {t u : State} (ho : ∀ m : Fin 32, u.outputs[m].current = t.outputs[m].current)
    (he : u.engine = t.engine) : quietNext s u = quietNext s t := by
  simp only [quietNext, ho, he]

/-! ### The work in whole -/

/-- State `t` is state `s` after the per-sample work of a block boundary. -/
structure Worked (env : Env) (s t : State) : Prop where
  inputs   : ∀ i : Fin 24, t.inputs[i] = nextInput env true s i
  reverb   : t.reverb.injectionCurrent = s.reverb.injectionCurrent ∧ t.reverb.lineCurrent = s.reverb.lineCurrent ∧
    t.reverb.tapCurrent = s.reverb.tapCurrent ∧ t.reverb.clearing = s.reverb.clearing ∧
    t.reverb.clearCount = if clearingPeriod s then s.reverb.clearCount + 1 else s.reverb.clearCount
  outputs  : ∀ m : Fin 32, t.outputs[m] =
    { s.outputs[m] with runningPeak := t.outputs[m].runningPeak, clips := t.outputs[m].clips }
  ring     : t.ring = { s.ring with handFront := s.ring.handBack, handBack := t.ring.handBack }
  captures : s.capture.state = .running → t.capture.state = .running ∧ t.capture.wanted = s.capture.wanted ∧
    t.capture.captured = s.capture.captured + 1
  waits    : s.capture.state ≠ .running → t.capture = s.capture
  engine   : t.engine = { s.engine with quiet := quietNext s s }
  notices  : ∃ p, Reported False (fun k => k = .clip ∧ p) s.notices t.notices
  frame    : t = { s with
    ring := t.ring, inputs := t.inputs, reverb := t.reverb, outputs := t.outputs, engine := t.engine, gen := t.gen
    capture := t.capture, notices := t.notices, marks := { s.marks with early := false } }

/-- The blocks' work of a frame period, one after another. -/
def samplesTaken (env : Env) (x : Vector Sample 24) (level : Nat) (s : State) : State :=
  outputsWork (generatorSamples s.gen) s (generatorWork (reverbWork x level (inputsWork env true s)))

theorem samplesTaken_frame (env : Env) (x : Vector Sample 24) (level : Nat) (s : State) :
    samplesTaken env x level s = { s with
      inputs := (inputsWork env true s).inputs, reverb := (reverbWork x level (inputsWork env true s)).reverb
      outputs := (samplesTaken env x level s).outputs, gen := (samplesTaken env x level s).gen
      notices := (samplesTaken env x level s).notices } := by
  unfold samplesTaken
  rw [outputsWork_frame]
  dsimp only
  rw [generatorWork_frame]
  dsimp only
  rw [reverbWork_frame, inputsWork_frame]

/-- What leaves the blocks in a frame period: the delivered set, the captured value, the quiet run. -/
def samplesSent (q : Vector Sample 32) (sent : Vector Sample 32) (v : Sample) (s : State) : State :=
  quietWork q (captureWork v (handOff sent s))

theorem quietAfter_congr (q : Vector Sample 32) {s t : State} (ho : t.outputs = s.outputs) (he : t.engine = s.engine) :
    quietAfter q t = quietAfter q s := by
  have hs : allSilent t = allSilent s := by simp only [allSilent, ho]
  rw [quietAfter, hs, he, quietAfter]

theorem samplesSent_frame (q sent : Vector Sample 32) (v : Sample) (s : State) : samplesSent q sent v s = { s with
    ring := { s.ring with handFront := s.ring.handBack, handBack := sent }
    engine := { s.engine with quiet := quietAfter q s }
    capture := (captureWork v s).capture } := by
  have hq : quietAfter q (captureWork v (handOff sent s)) = quietAfter q s :=
    quietAfter_congr q (by rw [captureWork_frame, handOff_frame]) (by rw [captureWork_frame, handOff_frame])
  unfold samplesSent quietWork
  rw [hq]
  unfold captureWork handOff setEngine
  dsimp only
  split <;> rfl

/-- The state with its frame period's per-sample work behind it. -/
def samplesOver (s : State) : State := { s with marks := { s.marks with early := false } }

theorem sampleWork_eq {env : Env} {s : State} (h : installsFirst s = false) : ∃ x level sent v,
    sampleWork env true s = samplesOver (samplesSent (generatorSamples s.gen) sent v (samplesTaken env x level s)) := by
  have hs : samplingState s = s := by
    unfold samplingState
    rw [h]
    rfl
  have hc : inputsAndCore env true s =
      reverbWork (Vector.ofFn (inputSample env true s)) (levelUsed s) (inputsWork env true s) := by
    unfold inputsAndCore
    rw [h]
    rfl
  refine ⟨Vector.ofFn (inputSample env true s), levelUsed s, Vector.ofFn (sentSample (generatorSamples s.gen) s),
    pointValue env (Vector.ofFn (inputSample env true s)) (lineEnds s)
      (Vector.ofFn (sentSample (generatorSamples s.gen) s)) s.capture.point, ?_⟩
  unfold sampleWork
  rw [hs, hc]
  rfl

theorem installsFirst_of_count {s : State} (h : s.reverb.clearing = true → s.reverb.clearCount < 63) :
    installsFirst s = false := by
  unfold installsFirst clearingPeriod
  cases hc : s.reverb.clearing with
  | false => simp
  | true =>
    have hd : decide (Config.clearPeriods ≤ s.reverb.clearCount + 1) = false := by
      rw [decide_eq_false_iff_not]
      exact Nat.not_le.2 (Nat.succ_lt_succ (h hc))
    rw [hd, Bool.and_false, Bool.false_and]

theorem coreWorked_frame (env : Env) (x : Vector Sample 24) (level : Nat) (s : State) :
    generatorWork (reverbWork x level (inputsWork env true s)) = { s with
      inputs := (inputsWork env true s).inputs, reverb := (reverbWork x level (inputsWork env true s)).reverb
      gen := (generatorWork (reverbWork x level (inputsWork env true s))).gen
      notices := (reverbWork x level (inputsWork env true s)).notices } := by
  rw [generatorWork_frame]
  dsimp only
  rw [reverbWork_frame, inputsWork_frame]

theorem samplesTaken_output (env : Env) (x : Vector Sample 24) (level : Nat) (s : State) (m : Fin 32) :
    (samplesTaken env x level s).outputs[m] = { s.outputs[m] with
      runningPeak := (samplesTaken env x level s).outputs[m].runningPeak
      clips := (samplesTaken env x level s).outputs[m].clips } := by
  have h : (generatorWork (reverbWork x level (inputsWork env true s))).outputs = s.outputs := by rw [coreWorked_frame]
  unfold samplesTaken
  rw [outputsWork_output, h]

theorem reported_samplesTaken (env : Env) (x : Vector Sample 24) (level : Nat) (s : State) :
    ∃ p, Reported False (fun k => k = .clip ∧ p) s.notices (samplesTaken env x level s).notices := by
  obtain ⟨p, core⟩ := reported_reverbWork x level (inputsWork env true s)
  obtain ⟨q, sent⟩ := reported_outputsWork (generatorSamples s.gen) s
    (generatorWork (reverbWork x level (inputsWork env true s)))
  have hk : (generatorWork (reverbWork x level (inputsWork env true s))).notices =
      (reverbWork x level (inputsWork env true s)).notices := by rw [generatorWork_frame]
  have hi : (inputsWork env true s).notices = s.notices := by rw [inputsWork_frame]
  rw [hk] at sent
  rw [hi] at core
  unfold samplesTaken
  exact ⟨p ∨ q, (core.trans sent).congr fun k => and_or_left⟩

theorem captureWork_running {v : Sample} {s : State} (h : s.capture.state = .running) :
    (captureWork v s).capture = recorded v s.capture := by
  rw [captureWork, if_pos h]

theorem captureWork_waiting {v : Sample} {s : State} (h : s.capture.state ≠ .running) : captureWork v s = s := by
  rw [captureWork, if_neg h]

/-- The per-sample work of a block boundary, with no clearing about to end (R48, R77, R95, R141, R177). -/
theorem worked_sampleWork {env : Env} {s : State} (h : s.reverb.clearing = true → s.reverb.clearCount < 63) :
    Worked env s (sampleWork env true s) := by
  obtain ⟨x, level, sent, v, he⟩ := sampleWork_eq (env := env) (installsFirst_of_count h)
  have ht := samplesTaken_frame env x level s
  have ho := samplesTaken_output env x level s
  have hn := reported_samplesTaken env x level s
  have hr := reverbWork_reverb x level (inputsWork env true s)
  have hi (i : Fin 24) : (inputsWork env true s).inputs[i] = nextInput env true s i := by simp [inputsWork]
  have hp : clearingPeriod (inputsWork env true s) = clearingPeriod s := by
    unfold clearingPeriod
    rw [inputsWork_frame]
  have hq : quietAfter (generatorSamples s.gen) (samplesTaken env x level s) = quietNext s s := by
    rw [quietAfter_eq_quietNext]
    exact quietNext_congr s (fun m => by rw [ho]) (by rw [ht])
  rw [hp] at hr
  rw [he]
  generalize samplesTaken env x level s = u at *
  have hs := samplesSent_frame (generatorSamples s.gen) sent v u
  rw [hq] at hs
  have hui : u.inputs = (inputsWork env true s).inputs := by rw [ht]
  have hur : u.reverb = (reverbWork x level (inputsWork env true s)).reverb := by rw [ht]
  have huc : u.capture = s.capture := by rw [ht]
  have hue : u.engine = s.engine := by rw [ht]
  have hug : u.ring = s.ring := by rw [ht]
  rw [hs]
  unfold samplesOver
  refine ⟨fun i => ?_, ?_, ho, ?_, fun hrun => ?_, fun hw => ?_, ?_, hn, ?_⟩ <;> dsimp only
  · rw [hui, hi]
  · rw [hur]
    exact hr
  · rw [hug]
  · rw [captureWork_running (huc ▸ hrun), huc]
    exact ⟨hrun, rfl, rfl⟩
  · rw [captureWork_waiting (huc ▸ hw), huc]
  · rw [hue]
  · rw [ht]

end Sys2Proof.Machine
end

section
/-! What each task of a block boundary does to the parts of the state that it touches (R10, R41 to R53, R88, R159,
R176, R177). -/

namespace Sys2Proof.Machine

/-! ### Tasks with nothing to do -/

theorem relockEdge_of_none {env : Env} (h : env.relock = false) (s : State) : relockEdge env s = s := by
  rw [relockEdge, h]
  rfl

/-- R135, R136, R176: the scheduled frame is due, as the blocks test it. -/
theorem frameReached_iff {slip : Bool} {f n : Nat} {s : State} (h : slip = true ↔ Slipped n s) :
    (distance f n == 0 || (slip && !inReach (distance f n))) = true ↔ FrameReached f n s := by
  have hr : (!inReach (distance f n)) = true ↔ distance f n = 0 ∨ 65535 < distance f n := by
    simp only [inReach, Bool.not_eq_true', Bool.and_eq_false_iff, decide_eq_false_iff_not]
    unfold Config.farthest
    omega
  rw [FrameReached, Bool.or_eq_true, beq_iff_eq, Bool.and_eq_true, hr, h]
  tauto

theorem commitStart_of_not_due {slip : Bool} {s : State} (h : commitDue slip s = false) :
    withEdges (commitStart slip) s = s := by
  have hc : commitStart slip s = s := by
    rw [commitStart, h]
    rfl
  rw [withEdges, hc]
  exact edges_same s s fun _ _ => rfl

/-- No clearing is at its end and no held recall is released. -/
theorem clearingEnd_of_short {s : State} (h : s.reverb.clearing = true → s.reverb.clearCount < 64)
    (hr : ¬ (recallReason s = true ∧ s.store.count = 0)) : withEdges clearingEnd s = s := by
  have ho : clearingOver s = false := by
    unfold clearingOver
    cases hc : s.reverb.clearing with
    | false => rfl
    | true => exact decide_eq_false (Nat.not_le.2 (h hc))
  have hc : clearingEnd s = s := by
    have he : clearingOff s = s := by
      rw [clearingOff, ho]
      rfl
    rw [clearingEnd, he, releaseHeldRecall, if_neg fun hx => hr ⟨hx.1, hx.2.1⟩]
  rw [withEdges, hc]
  exact edges_same s s fun _ _ => rfl

/-! ### The inputs -/

/-- A sample changes the current of an input only at its admission, which sets it. -/
theorem takeSample_current (r : InputRec) (setTo : Nat) (sample : Option Sample) (u : InputUnit) :
    (takeSample r setTo sample u).current = u.current ∧
      ((takeSample r setTo sample u).state = .admitted → u.state = .admitted) ∨
    u.state ≠ .admitted ∧ (takeSample r setTo sample u).state = .admitted ∧
      (takeSample r setTo sample u).current = setTo := by
  unfold takeSample
  split
  · exact .inl ⟨rfl, id⟩
  · split
    · unfold received
      split
      · exact .inl ⟨rfl, id⟩
      · next hs =>
        split
        · exact .inr ⟨by simp [hs], rfl, rfl⟩
        · exact .inl ⟨rfl, nofun⟩
      · next hs =>
        split
        · exact .inr ⟨by simp [hs], rfl, rfl⟩
        · exact .inl ⟨rfl, fun h => h⟩
      · exact .inl ⟨rfl, fun h => h⟩
    · unfold missed
      split
      · exact .inl ⟨rfl, id⟩
      · exact .inl ⟨rfl, id⟩
      · exact .inl ⟨rfl, nofun⟩
      · next hs =>
        unfold substituted
        dsimp only
        split
        · exact .inl ⟨rfl, nofun⟩
        · exact .inl ⟨rfl, fun h => h⟩

/-- R49, R44: the current of an input whose sample is taken after its ramp step. -/
structure InputNext (s : State) (i : Fin 24) (u : InputUnit) : Prop where
  steps  : u.state ≠ .admitted ∨ s.inputs[i].state = .admitted →
    u.current = steppedToward s (activeBank s).inputs[i].attenuation s.inputs[i].current
  enters : u.state = .admitted → s.inputs[i].state ≠ .admitted →
    u.current = 1536 ∨ u.current = steppedToward s (activeBank s).inputs[i].attenuation 1536

theorem nextInput_next {env : Env} {s t : State} {i : Fin 24} (hb : activeBank t = activeBank s)
    (hi : t.inputs[i] = { s.inputs[i] with
      current := steppedToward s (activeBank s).inputs[i].attenuation s.inputs[i].current }) (hl : env.loss = false) :
    InputNext s i (nextInput env true t i) := by
  have hs (first : Bool) : admissionCurrent first true (activeBank s).globals (activeBank s).inputs[i].attenuation = 1536 ∨
      admissionCurrent first true (activeBank s).globals (activeBank s).inputs[i].attenuation =
        steppedToward s (activeBank s).inputs[i].attenuation 1536 := by
    cases first with
    | false => exact .inl rfl
    | true => exact .inr (rampStep_eq_steppedToward s _ 1536)
  unfold nextInput
  rw [hl, hb, hi]
  simp only [Bool.false_eq_true, if_false]
  rcases takeSample_current (activeBank s).inputs[i] (admissionCurrent (Config.settingFirst t.draws i.val) true
    (activeBank s).globals (activeBank s).inputs[i].attenuation) (offered env (activeBank s).inputs[i])
    { s.inputs[i] with current := steppedToward s (activeBank s).inputs[i].attenuation s.inputs[i].current }
    with ⟨hc, hn⟩ | ⟨hn, ha, hc⟩
  · exact ⟨fun _ => hc, fun ha hx => absurd (hn ha) hx⟩
  · refine ⟨fun h => absurd h (not_or.2 ⟨not_not.2 ha, hn⟩), fun _ _ => ?_⟩
    rw [hc]
    exact hs _

/-! ### The core's currents -/

theorem reverbRamp_currents (s : State) :
    (∀ k : Fin 128, (reverbRamp s).reverb.injectionCurrent[k] =
      steppedToward s (activeBank s).injections[k].attenuation s.reverb.injectionCurrent[k]) ∧
    (∀ j : Fin 16, (reverbRamp s).reverb.lineCurrent[j] =
      steppedToward s (activeBank s).lines[j].decay s.reverb.lineCurrent[j]) ∧
    ∀ k : Fin 512, (reverbRamp s).reverb.tapCurrent[k] =
      steppedToward s (activeBank s).taps[k].attenuation s.reverb.tapCurrent[k] := by
  refine ⟨fun k => ?_, fun j => ?_, fun k => ?_⟩ <;>
    simp only [reverbRamp, getElem_changeAll, rampStep_eq_steppedToward]

theorem reverbRamp_clearing (s : State) : (reverbRamp s).reverb.clearing = s.reverb.clearing ∧
    (reverbRamp s).reverb.clearCount = s.reverb.clearCount := by
  simp only [reverbRamp, and_self]

/-! ### The edge of INPUT_MISSING -/

/-- R53: the edge of INPUT_MISSING of a frame period. -/
theorem missingEdge_of_some {s : State} {was : Bool} (h : s.marks.missing = some was) :
    missingEdge s = { s with marks := { s.marks with missing := none }, notices := (missingEdge s).notices } ∧
    Reported False (fun k => k = .inputMissing ∧ was ≠ inputMissing s) s.notices (missingEdge s).notices := by
  have he : missingEdge s = levelEdge was .inputMissing { s with marks := { s.marks with missing := none } } := by
    rw [missingEdge, h]
  refine ⟨?_, ?_⟩
  · rw [he, levelEdge_frame]
  · rw [he]
    exact reported_levelEdge was .inputMissing { s with marks := { s.marks with missing := none } }

/-! ### The calculator and the store -/

/-- With no result due in the active bank the calculator leaves it. -/
theorem activeBank_decayBoundary {s : State} (h : ∀ e, s.decay.current = some e → e.bank ≠ s.active) :
    activeBank (decayBoundary s) = activeBank s := by
  have hc : activeBank (decayCompletion s) = activeBank s := by
    unfold decayCompletion
    split
    · next e he =>
      split
      · unfold completeEntry
        rw [pulseIf_frame]
        have hn := h e he
        unfold activeBank
        cases ha : s.active <;> cases hb : e.bank <;> simp_all [setBank, bankOf]
      · rfl
    · rfl
  rw [decayBoundary, decayTake_frame, ← hc]
  rfl

theorem reported_decayBoundary (s : State) :
    ∃ p, Reported False (fun k => k = .decayClamped ∧ p) s.notices (decayBoundary s).notices := by
  have ht : (decayBoundary s).notices = (decayCompletion s).notices := by rw [decayBoundary, decayTake_frame]
  have hn : Reported False (fun k => k = .decayClamped ∧ False) s.notices s.notices :=
    (reported_none _).congr (by simp)
  rw [ht]
  unfold decayCompletion
  split
  · next e he =>
    split
    · unfold completeEntry
      have h := reported_pulseIf (clampOf e.length e.time) .decayClamped
        { setBank s e.bank (withDecay (bankOf s e.bank) e) with
          decay := { (setBank s e.bank (withDecay (bankOf s e.bank) e)).decay with current := none } }
      rw [show (setBank s e.bank (withDecay (bankOf s e.bank) e)).notices = s.notices from setBank_notices _ _ _] at h
      exact ⟨_, h⟩
    · exact ⟨False, hn⟩
  · exact ⟨False, hn⟩

/-- The store counts its operation short of its end. -/
theorem storeBoundary_of_short {s : State} (h : s.store.state = .idle ∨ 2 ≤ s.store.count)
    (hm : s.marks.store = false) : withEdges storeBoundary s = { s with
      store := if s.store.state = .idle then s.store else { s.store with count := s.store.count - 1 } } := by
  have hb : storeBoundary s = { s with
      store := if s.store.state = .idle then s.store else { s.store with count := s.store.count - 1 } } := by
    unfold storeBoundary
    by_cases hi : s.store.state = .idle
    · rw [if_pos (.inl hi), if_pos hi]
    · rw [if_neg (by simp [hi, hm]), if_neg hi]
      have hc : ¬ (countDown s).store.count = 0 := by
        have := h.resolve_left hi
        show ¬ s.store.count - 1 = 0
        omega
      dsimp only
      rw [if_neg hc]
      rfl
  rw [withEdges, hb]
  refine edges_none _ _ rfl rfl rfl rfl rfl rfl ?_
  dsimp only
  split <;> rfl

/-! ### The capture -/

theorem captureDue_iff {slip : Bool} {n : Nat} {s t : State} (h : slip = true ↔ Slipped n s) (hc : t.capture = s.capture)
    (hm : t.marks.capture = false) (hn : t.ring.frameNumber = n) :
    captureDue slip t = true ↔ s.capture.state ≠ .running ∧ CaptureRuns n s := by
  unfold captureDue CaptureRuns
  rw [hc, hm, hn]
  cases s.capture.trigger with
  | immediate => cases s.capture.state <;> simp
  | withGenerator => cases s.capture.state <;> simp
  | atFrame =>
    cases s.capture.scheduled with
    | none => cases s.capture.state <;> simp
    | some f =>
      have hf := frameReached_iff (f := f) h
      cases s.capture.state <;> simp_all

/-- R176: the capture runs in the frame period exactly where it ran or its trigger is met. -/
theorem captureStart_capture {slip : Bool} {n : Nat} {s t : State} (h : slip = true ↔ Slipped n s)
    (hc : t.capture = s.capture) (hm : t.marks.capture = false) (hn : t.ring.frameNumber = n) :
    ((captureStart slip t).capture.state = .running ↔ CaptureRuns n s) ∧
    (captureStart slip t).capture.wanted = s.capture.wanted ∧
    (captureStart slip t).capture.captured = s.capture.captured := by
  have hd := captureDue_iff h hc hm hn
  unfold captureStart
  split
  · next hx =>
    refine ⟨iff_of_true rfl (hd.1 hx).2, ?_, ?_⟩
    · rw [← hc]; rfl
    · rw [← hc]; rfl
  · next hx =>
    rw [hc]
    refine ⟨⟨fun hr => .inl hr, fun hr => ?_⟩, rfl, rfl⟩
    by_contra hne
    exact hx (hd.2 ⟨hne, hr⟩)

theorem reported_captureEnd (s : State) :
    Reported False (fun k => k = .captureDone ∧ s.capture.state = .running ∧ s.capture.wanted ≤ s.capture.captured)
      s.notices (captureEnd s).notices := by
  unfold captureEnd
  split
  · next h =>
    exact (reported_report .captureDone .none { s with capture := { s.capture with state := .done } }).congr
      fun k => and_iff_left h
  · next h => exact (reported_none _).congr fun k => by simp [h]

end Sys2Proof.Machine
end

section
/-! A block boundary as a run of tasks: which orders the plan allows, and what holds between two tasks whatever the
order (R98, R135, R176, log 2). -/

namespace Sys2Proof.Machine

/-! ### The orders -/

/-- The tasks of a block boundary that are done, of those that leave a trace. -/
structure Done where
  start    : Bool
  decay    : Bool
  ramps    : Bool
  outputs  : Bool
  store    : Bool
  work     : Bool
  captured : Bool
  missing  : Bool
  event    : Bool

/-- Nothing is done. -/
def Done.nothing : Done := ⟨false, false, false, false, false, false, false, false, false⟩

/-- Everything is done. -/
def Done.everything : Done := ⟨true, true, true, true, true, true, true, true, true⟩

/-- What is done after a task. -/
def Done.after (d : Done) : Task → Done
  | .captureStart => { d with start := true }
  | .decay => { d with decay := true }
  | .ramps => { d with ramps := true }
  | .outputs => { d with outputs := true }
  | .store => { d with store := true }
  | .work => { d with work := true }
  | .captureEnd => { d with captured := true }
  | .missingEdge => { d with missing := true }
  | .event => { d with event := true }
  | .relockEdge | .commitStart | .burstEnd | .clearingEnd => d

/-- The turn of a task: the tasks that it must follow are done, those that it must precede are not. -/
def Done.turn (d : Done) : Task → Bool
  | .relockEdge => true
  | .commitStart => !d.outputs && !d.work
  | .captureStart => !d.start && !d.work && !d.missing
  | .decay => !d.decay && !d.missing
  | .ramps => !d.ramps && !d.work && !d.missing
  | .outputs => !d.outputs && !d.work && !d.missing
  | .store => !d.store && !d.missing
  | .work => d.start && d.ramps && d.outputs && !d.work && !d.missing
  | .burstEnd => d.work
  | .captureEnd => d.start && d.work && !d.captured && !d.missing
  | .clearingEnd => true
  | .missingEdge => d.work && !d.missing
  | .event => !d.event

/-- Every task of a list comes at its turn, and with the last everything is done. -/
def Done.leads (d : Done) : List Task → Bool
  | [] => d.start && d.decay && d.ramps && d.outputs && d.store && d.work && d.captured && d.missing && d.event
  | k :: ts => d.turn k && (d.after k).leads ts

theorem eq_everything_of_leads {d : Done} (h : d.leads [] = true) : d = Done.everything := by
  obtain ⟨_, _, _, _, _, _, _, _, _⟩ := d
  simp only [Done.leads, Bool.and_eq_true] at h
  simp [Done.everything, h]

/-- The turns of the other tasks do not depend on the event. -/
theorem turn_event {d : Done} {k : Task} (h : k ≠ .event) : { d with event := true }.turn k = d.turn k := by
  cases k with
  | event => exact absurd rfl h
  | _ => rfl

theorem after_event (d : Done) (k : Task) :
    { d with event := true }.after k = { d.after k with event := true } := by
  cases k <;> rfl

theorem event_after {d : Done} {k : Task} (h : k ≠ .event) : (d.after k).event = d.event := by
  cases k with
  | event => exact absurd rfl h
  | _ => rfl

theorem leads_event {d : Done} {ts : List Task} (hd : d.event = false) (h : { d with event := true }.leads ts = true) :
    d.leads (.event :: ts) = true := by
  rw [Done.leads, Bool.and_eq_true]
  exact ⟨by rw [Done.turn, hd]; rfl, h⟩

/-- The event may stand anywhere. -/
theorem leads_insert_event (j : Nat) (ts : List Task) (d : Done) (hd : d.event = false)
    (h : { d with event := true }.leads ts = true) : d.leads (insertTask .event j ts) = true := by
  induction ts generalizing j d with
  | nil => cases j <;> exact leads_event hd h
  | cons k ts ih =>
    cases j with
    | zero => exact leads_event hd h
    | succ j =>
      have hk : k ≠ .event := by
        rintro rfl
        simp [Done.leads, Done.turn] at h
      rw [Done.leads, turn_event hk, after_event, Bool.and_eq_true] at h
      show d.leads (k :: insertTask .event j ts) = true
      rw [Done.leads, h.1, Bool.true_and]
      exact ih j (d.after k) (by rw [event_after hk, hd]) h.2

/-- The tasks of a block boundary, the event aside: the store's work at a place among the three others' in an order,
and the two starts in an order. -/
def boundaryTasks (place order : Nat) (commitFirst : Bool) : List Task :=
  .relockEdge :: (if commitFirst then [.commitStart, .captureStart] else [.captureStart, .commitStart]) ++
    insertTask .store place (boundaryOrder order ++ [.work]) ++ [.burstEnd, .captureEnd, .clearingEnd, .missingEdge]

theorem leads_boundaryTasks : ∀ (place : Fin 5) (order : Fin 6) (commitFirst : Bool),
    { Done.nothing with event := true }.leads (boundaryTasks place.val order.val commitFirst) = true := by
  decide

/-- Every order that a block boundary may take has each task at its turn. -/
theorem leads_plan (resets : Bool) (n e : Nat) : Done.nothing.leads (plan true resets n e) = true := by
  have h := leads_boundaryTasks ⟨n % 5, Nat.mod_lt _ (by decide)⟩ ⟨n / 5 % 6, Nat.mod_lt _ (by decide)⟩
    (decide (n / 30 % 2 = 0))
  simp only [boundaryTasks, decide_eq_true_eq] at h
  exact leads_insert_event _ _ Done.nothing rfl h

end Sys2Proof.Machine
end

section
/-! What holds between two tasks of a block boundary, whatever their order: each part of the state is as it was before
the frame period or as the task that works on it leaves it. -/

namespace Sys2Proof.Machine

/-- A block boundary of number `n` in state `s`, with ring `r`: no lock event, no scheduled commit reached, no clearing
and no store operation at its end, no result due in the active bank. Where `p`, its cell is an IDLE cell; otherwise it
brings nothing. -/
structure Plain (env : Env) (r : Ring) (n : Nat) (p : Prop) (s : State) : Prop where
  relock   : env.relock = false
  loss     : env.loss = false
  slip     : env.slip = true ↔ Slipped n s
  number   : r.frameNumber = n
  lock     : r.lock = s.ring.lock
  idle     : p → ∀ t, t.node = s.node → takeEvent env t = offerIdle t
  quiet    : ¬ p → ∀ t, t.node = s.node → takeEvent env t = t
  commit   : s.engine.state = .scheduled → ∀ frame, s.engine.scheduled = some frame → ¬ FrameReached frame n s
  clearing : s.reverb.clearing = true → s.reverb.clearCount < 63
  store    : s.store.state = .idle ∨ 2 ≤ s.store.count
  decay    : ∀ e, s.decay.current = some e → e.bank ≠ s.active

/-! ### The occurrences so far -/

theorem Reported.offered_iff {p q : Prop} {K : NoticeKind → Prop} {n m : Notices} (h : Reported p K n m) (hq : q ↔ p) :
    Reported q K n m := propext hq ▸ h

/-- The kinds, CLIP and DECAY_CLAMPED aside, whose occurrences the tasks done so far bring. -/
def Occurs (n : Nat) (s : State) (d : Done) (t : State) : NoticeKind → Prop
  | .captureDone => d.captured = true ∧ CaptureRuns n s ∧ s.capture.wanted ≤ s.capture.captured + 1
  | .inputMissing => d.missing = true ∧ inputMissing s ≠ inputMissing t
  | k => d.outputs = true ∧ BoundaryOccurs s t.backoff.level k

/-- The Notice Unit as the tasks done so far leave it. -/
def NoticesAt (n : Nat) (p : Prop) (s : State) (d : Done) (t : State) : Prop :=
  ∃ K, (∀ k, k ≠ .clip → k ≠ .decayClamped → (K k ↔ Occurs n s d t k)) ∧
    Reported (d.event = true ∧ p) K s.notices t.notices

section
variable {n : Nat} {p : Prop} {s t t' : State} {d d' : Done}

theorem NoticesAt.report (h : NoticesAt n p s d t) {L : NoticeKind → Prop} (hr : Reported False L t.notices t'.notices)
    (he : d'.event = d.event)
    (ho : ∀ k, k ≠ .clip → k ≠ .decayClamped → (Occurs n s d' t' k ↔ Occurs n s d t k ∨ L k)) : NoticesAt n p s d' t' := by
  obtain ⟨K, hk, h⟩ := h
  refine ⟨fun k => K k ∨ L k, fun k h1 h2 => ?_, ?_⟩
  · exact (or_congr_left (hk k h1 h2)).trans (ho k h1 h2).symm
  · rw [he]
    exact h.trans hr

theorem occurs_congr (hc : d'.captured = d.captured) (hm : d'.missing = d.missing) (ho : d'.outputs = d.outputs)
    (hb : t'.backoff = t.backoff) (hi : d.missing = true → inputMissing t' = inputMissing t) (k : NoticeKind) :
    Occurs n s d' t' k ↔ Occurs n s d t k := by
  cases k <;> simp only [Occurs, hc, hm, ho, hb]
  exact and_congr_right fun h => by rw [hi h]

/-- A task that reports nothing but CLIP and DECAY_CLAMPED. -/
theorem NoticesAt.keep (h : NoticesAt n p s d t) {j : NoticeKind} {q : Prop} (hj : j = .clip ∨ j = .decayClamped)
    (hr : Reported False (fun k => k = j ∧ q) t.notices t'.notices) (he : d'.event = d.event)
    (hc : d'.captured = d.captured) (hm : d'.missing = d.missing) (ho : d'.outputs = d.outputs)
    (hb : t'.backoff = t.backoff) (hi : d.missing = true → inputMissing t' = inputMissing t) : NoticesAt n p s d' t' := by
  refine h.report hr he fun k h1 h2 => ?_
  have hk : k ≠ j := by
    rcases hj with rfl | rfl
    · exact h1
    · exact h2
  rw [occurs_congr hc hm ho hb hi, or_iff_left (fun hx => hk hx.1)]

/-- A task that reports nothing. -/
theorem NoticesAt.same (h : NoticesAt n p s d t) (hn : t'.notices = t.notices) (he : d'.event = d.event)
    (hc : d'.captured = d.captured) (hm : d'.missing = d.missing) (ho : d'.outputs = d.outputs)
    (hb : t'.backoff = t.backoff) (hi : d.missing = true → inputMissing t' = inputMissing t) : NoticesAt n p s d' t' :=
  h.keep (j := .clip) (q := False) (.inl rfl) (hn ▸ (reported_none _).congr (by simp)) he hc hm ho hb hi

end

/-! ### The state between two tasks -/

/-- State `t` of a block boundary that began in state `s` with ring `r`, where the tasks of `d` are done. -/
structure Stage (r : Ring) (n : Nat) (p : Prop) (s : State) (d : Done) (t : State) : Prop where
  node       : t.node = s.node
  active     : t.active = s.active
  bank       : activeBank t = activeBank s
  started    : t.started = true
  ring       : d.work = false → t.ring = r
  handed     : d.work = true → t.ring = { r with handFront := r.handBack, handBack := t.ring.handBack }
  gen        : d.work = false → t.gen = s.gen
  decay      : d.decay = false → t.decay = s.decay
  uncounted  : d.store = false → t.store = s.store
  counted    : d.store = true →
    t.store = if s.store.state = .idle then s.store else { s.store with count := s.store.count - 1 }
  storeMark  : t.marks.store = false
  armMark    : t.marks.capture = false
  level      : d.missing = false → t.marks.missing = some (inputMissing s)
  unbegun    : d.start = false → t.capture = s.capture
  begun      : d.start = true → d.work = false → (t.capture.state = .running ↔ CaptureRuns n s) ∧
    t.capture.wanted = s.capture.wanted ∧ t.capture.captured = s.capture.captured
  recorded   : d.work = true → d.captured = false → (t.capture.state = .running ↔ CaptureRuns n s) ∧
    t.capture.wanted = s.capture.wanted ∧ (CaptureRuns n s → t.capture.captured = s.capture.captured + 1)
  inputs     : d.ramps = false → t.inputs = s.inputs
  inputsRun  : d.ramps = true → d.work = false → ∀ i : Fin 24, t.inputs[i] = { s.inputs[i] with
    current := steppedToward s (activeBank s).inputs[i].attenuation s.inputs[i].current }
  inputsNext : d.work = true → ∀ i : Fin 24, InputNext s i t.inputs[i]
  core       : d.ramps = false → t.reverb.injectionCurrent = s.reverb.injectionCurrent ∧
    t.reverb.lineCurrent = s.reverb.lineCurrent ∧ t.reverb.tapCurrent = s.reverb.tapCurrent
  coreRun    : d.ramps = true →
    (∀ k : Fin 128, t.reverb.injectionCurrent[k] =
      steppedToward s (activeBank s).injections[k].attenuation s.reverb.injectionCurrent[k]) ∧
    (∀ j : Fin 16, t.reverb.lineCurrent[j] = steppedToward s (activeBank s).lines[j].decay s.reverb.lineCurrent[j]) ∧
    (∀ k : Fin 512, t.reverb.tapCurrent[k] =
      steppedToward s (activeBank s).taps[k].attenuation s.reverb.tapCurrent[k])
  outputs    : d.outputs = false → t.outputs = s.outputs
  outputsRun : d.outputs = true → ∀ m : Fin 32, t.outputs[m] =
    { outputNext s m with runningPeak := t.outputs[m].runningPeak, clips := t.outputs[m].clips }
  backoff    : d.outputs = false → t.backoff = s.backoff
  backoffRun : d.outputs = true → BackoffNext s t.backoff
  engine     : d.outputs = false → t.engine = s.engine
  engineRun  : d.outputs = true → EngineNext s t.engine
  unquiet    : d.work = false → t.engine.quiet = s.engine.quiet
  quiet      : d.work = true → t.engine.quiet =
    if ∀ m : Fin 32, (outputNext s m).current = 1536 ∧ expectedGenerator s m = 0 then min (s.engine.quiet + 1) 2 else 0
  clears     : ¬ (d.outputs = true ∧ Starts s) → t.reverb.clearing = s.reverb.clearing ∧ t.marks.clear = false ∧
    t.reverb.clearCount = if (d.work && s.reverb.clearing) = true then s.reverb.clearCount + 1 else s.reverb.clearCount
  starts     : d.outputs = true → Starts s → t.reverb.clearing = true ∧ t.marks.clear = true ∧ t.reverb.clearCount = 0
  notices    : NoticesAt n p s d t
  answer     : t.out.answer = none
  notice     : ¬ (d.event = true ∧ p) → t.out.notice = none

section
variable {env : Env} {r : Ring} {n : Nat} {p : Prop} {s t : State} {d : Done}

theorem stage_begin (hp : s.started = true ∨ s.marks.store = false) (o : Outgoing) (ha : o.answer = none)
    (hn : o.notice = none) : Stage r n p s Done.nothing (beginPeriod { s with ring := r, out := o }) where
  node := rfl
  active := rfl
  bank := rfl
  started := rfl
  ring _ := rfl
  handed := nofun
  gen _ := rfl
  decay _ := rfl
  uncounted _ := rfl
  counted := nofun
  storeMark := by
    show (s.marks.store && !s.started) = false
    rcases hp with h | h <;> simp [h]
  armMark := rfl
  level _ := rfl
  unbegun _ := rfl
  begun := nofun
  recorded := nofun
  inputs _ := rfl
  inputsRun := nofun
  inputsNext := nofun
  core _ := ⟨rfl, rfl, rfl⟩
  coreRun := nofun
  outputs _ := rfl
  outputsRun := nofun
  backoff _ := rfl
  backoffRun := nofun
  engine _ := rfl
  engineRun := nofun
  unquiet _ := rfl
  quiet := nofun
  clears _ := ⟨rfl, rfl, rfl⟩
  starts := nofun
  notices := ⟨fun _ => False, fun k _ _ => by cases k <;> simp [Occurs, Done.nothing],
    (reported_none s.notices).offered_iff (by simp [Done.nothing])⟩
  answer := ha
  notice _ := hn

/-- A task that writes nothing but the generator, once the samples are taken. -/
theorem Stage.after_burst (h : Stage r n p s d t) (hd : d.turn .burstEnd = true) :
    Stage r n p s d (burstBegin (burstEnd t)) := by
  have hw : d.work = true := hd
  rw [burstBegin_frame, burstEnd_frame]
  generalize (burstBegin { t with gen := (burstEnd t).gen }).gen = g
  exact { h with gen := fun hf => by simp [hw] at hf }

theorem Stage.after_captureStart (hp : Plain env r n p s) (h : Stage r n p s d t) (hd : d.turn .captureStart = true) :
    Stage r n p s (d.after .captureStart) (captureStart env.slip t) := by
  simp only [Done.turn, Bool.and_eq_true, Bool.not_eq_true'] at hd
  obtain ⟨⟨hs, hw⟩, hm⟩ := hd
  have hb := captureStart_capture hp.slip (h.unbegun hs) h.armMark (by rw [h.ring hw, hp.number])
  rw [captureStart_frame]
  generalize (captureStart env.slip t).capture = c at *
  exact { h with
    unbegun := nofun
    begun := fun _ _ => hb
    recorded := fun hf => by simp [Done.after, hw] at hf
    notices := h.notices.same rfl rfl rfl rfl rfl rfl fun _ => rfl }

theorem Stage.after_decay (hp : Plain env r n p s) (h : Stage r n p s d t) (hd : d.turn .decay = true) :
    Stage r n p s (d.after .decay) (decayBoundary t) := by
  simp only [Done.turn, Bool.and_eq_true, Bool.not_eq_true'] at hd
  obtain ⟨hc, hm⟩ := hd
  have hb := activeBank_decayBoundary (s := t) (by rw [h.decay hc, h.active]; exact hp.decay)
  obtain ⟨q, hn⟩ := reported_decayBoundary t
  have hf := decayBoundary_frame t
  generalize decayBoundary t = u at *
  rw [hf] at hb ⊢
  exact { h with
    bank := hb.trans h.bank
    decay := nofun
    notices := h.notices.keep (.inr rfl) hn rfl rfl rfl rfl rfl fun hx => by simp [hm] at hx }

theorem Stage.after_store (hp : Plain env r n p s) (h : Stage r n p s d t) (hd : d.turn .store = true) :
    Stage r n p s (d.after .store) (withEdges storeBoundary t) := by
  simp only [Done.turn, Bool.and_eq_true, Bool.not_eq_true'] at hd
  obtain ⟨hc, hm⟩ := hd
  have hs := h.uncounted hc
  rw [storeBoundary_of_short (by rw [hs]; exact hp.store) h.storeMark, hs]
  exact { h with
    uncounted := nofun
    counted := fun _ => rfl
    notices := h.notices.same rfl rfl rfl rfl rfl rfl fun _ => rfl }

theorem Stage.after_ramps (h : Stage r n p s d t) (hd : d.turn .ramps = true) :
    Stage r n p s (d.after .ramps) (reverbRamp (inputsRamp t)) := by
  simp only [Done.turn, Bool.and_eq_true, Bool.not_eq_true'] at hd
  obtain ⟨⟨hr, hw⟩, hm⟩ := hd
  have hi (i : Fin 24) : (inputsRamp t).inputs[i] = { s.inputs[i] with
      current := steppedToward s (activeBank s).inputs[i].attenuation s.inputs[i].current } := by
    simp only [inputsRamp, getElem_changeAll, h.inputs hr, h.bank, rampStep_eq_steppedToward]
  have hf := inputsRamp_frame t
  generalize inputsRamp t = u at *
  have hb : activeBank u = activeBank s := by rw [hf]; exact h.bank
  obtain ⟨hj, hl, ht⟩ := reverbRamp_currents u
  obtain ⟨hc, hk⟩ := reverbRamp_clearing u
  obtain ⟨cj, cl, ct⟩ := h.core hr
  have hv : u.reverb = t.reverb := by rw [hf]
  simp only [steppedToward_congr hb, hb, hv, cj, cl, ct] at hj hl ht
  rw [hv] at hc hk
  rw [reverbRamp_frame]
  generalize (reverbRamp u).reverb = v at *
  rw [hf]
  exact { h with
    inputs := nofun
    inputsRun := fun _ _ => hi
    inputsNext := fun hx => by simp [Done.after, hw] at hx
    core := nofun
    coreRun := fun _ => ⟨hj, hl, ht⟩
    clears := fun hx => by
      obtain ⟨h1, h2, h3⟩ := h.clears hx
      exact ⟨hc.trans h1, h2, hk.trans h3⟩
    starts := fun ho hx => by
      obtain ⟨h1, h2, h3⟩ := h.starts ho hx
      exact ⟨hc.trans h1, h2, hk.trans h3⟩
    notices := h.notices.same rfl rfl rfl rfl rfl rfl fun hx => by simp [hm] at hx }

theorem EngineNext.quieted {e : Engine} (h : EngineNext s e) (q : Nat) : EngineNext s { e with quiet := q } where
  starts hs := by rw [h.starts hs]
  ends hs := by rw [h.ends hs]
  stays h1 h2 := by rw [h.stays h1 h2]

theorem Stage.sameBoundary (hp : Plain env r n p s) (h : Stage r n p s d t) (ho : d.outputs = false)
    (hw : d.work = false) : SameBoundary s t where
  bank := h.bank
  outputs := h.outputs ho
  engine := h.engine ho
  backoff := h.backoff ho
  lock := by rw [h.ring hw, hp.lock]

theorem Stage.after_outputs (hp : Plain env r n p s) (h : Stage r n p s d t) (hd : d.turn .outputs = true) :
    Stage r n p s (d.after .outputs) (outputsBoundary (boundaryMute env t) t) := by
  simp only [Done.turn, Bool.and_eq_true, Bool.not_eq_true'] at hd
  obtain ⟨⟨ho, hw⟩, hm⟩ := hd
  have same := h.sameBoundary hp ho hw
  have hu : boundaryMute env t = lockMute t := by
    rw [boundaryMute, hp.relock, Bool.false_and, Bool.or_false]
  have done := boundaryDone (s := t) (by rw [h.level hm]; rfl)
  have hf := outputsBoundary_frame (lockMute t) t
  rw [hu]
  generalize outputsBoundary (lockMute t) t = u at *
  obtain ⟨hout, hback, heng, hquiet, hstarts, hstays, hnotices⟩ := done
  obtain ⟨hc, hk, hn⟩ := h.clears fun hx => by simp [ho] at hx
  have hcount : t.reverb.clearCount = s.reverb.clearCount := by rw [hn, hw]; rfl
  have hcore : u.reverb.injectionCurrent = t.reverb.injectionCurrent ∧ u.reverb.lineCurrent = t.reverb.lineCurrent ∧
      u.reverb.tapCurrent = t.reverb.tapCurrent := by
    by_cases hx : Starts t
    · rw [(hstarts hx).1]
      exact ⟨rfl, rfl, rfl⟩
    · rw [(hstays hx).1]
      exact ⟨rfl, rfl, rfl⟩
  have hmarks : u.marks.store = t.marks.store ∧ u.marks.capture = t.marks.capture ∧ u.marks.missing = t.marks.missing := by
    by_cases hx : Starts t
    · rw [(hstarts hx).2]
      exact ⟨rfl, rfl, rfl⟩
    · rw [(hstays hx).2]
      exact ⟨rfl, rfl, rfl⟩
  have hno : NoticesAt n p s (d.after .outputs) u := by
    refine h.notices.report hnotices rfl fun k _ _ => ?_
    rw [same.boundaryOccurs]
    cases k <;> simp [Occurs, Done.after, ho, hm, BoundaryOccurs]
  obtain ⟨cj, cl, ct⟩ := hcore
  obtain ⟨ms, mc, mm⟩ := hmarks
  rw [hf] at hno ⊢
  exact { h with
    storeMark := ms.trans h.storeMark
    armMark := mc.trans h.armMark
    level := fun hx => mm.trans (h.level hx)
    core := fun hx => by
      obtain ⟨h1, h2, h3⟩ := h.core hx
      exact ⟨cj.trans h1, cl.trans h2, ct.trans h3⟩
    coreRun := fun hx => by
      show (∀ k : Fin 128, u.reverb.injectionCurrent[k] = _) ∧ (∀ j : Fin 16, u.reverb.lineCurrent[j] = _) ∧
        ∀ k : Fin 512, u.reverb.tapCurrent[k] = _
      rw [cj, cl, ct]
      exact h.coreRun hx
    outputs := nofun
    outputsRun := fun _ m => by
      show u.outputs[m] = _
      rw [hout, same.outputNext]
    backoff := nofun
    backoffRun := fun _ => same.backoffNext hback
    engine := nofun
    engineRun := fun _ => same.engineNext heng
    unquiet := fun hx => hquiet.trans (h.unquiet hx)
    quiet := fun hx => by simp [Done.after, hw] at hx
    clears := fun hx => by
      have hns : ¬ Starts t := fun hs => hx ⟨rfl, same.starts.1 hs⟩
      obtain ⟨hr, hmk⟩ := hstays hns
      show u.reverb.clearing = _ ∧ u.marks.clear = _ ∧ u.reverb.clearCount = _
      rw [hr, hmk]
      exact ⟨hc, hk, hn⟩
    starts := fun _ hs => by
      obtain ⟨hr, hmk⟩ := hstarts (same.starts.2 hs)
      show u.reverb.clearing = _ ∧ u.marks.clear = _ ∧ u.reverb.clearCount = _
      rw [hr, hmk]
      exact ⟨rfl, rfl, rfl⟩
    notices := hno }

/-- Inside the frame period the edges of the per-sample work wait: it moves INPUT_MISSING alone. -/
theorem withEdges_sampleWork {t u : State} (hm : u.marks.missing.isSome = true) (hu : Worked env t u) :
    edges t u = u := by
  have hg : guardActive u = guardActive t := by
    rw [Bool.eq_iff_iff, guardActive_iff, guardActive_iff]
    exact exists_congr fun m => by rw [hu.outputs m]
  have hb : u.backoff = t.backoff := by rw [hu.frame]
  have hl : u.ring.lock = t.ring.lock := by rw [hu.ring]
  have hs : u.store = t.store := by rw [hu.frame]
  have he : u.engine.state = t.engine.state := by rw [hu.engine]
  refine edges_still t u fun k _ hk => ?_
  rw [moves_iff hm hl hs, hg, hb, he] at hk
  simp at hk

theorem Stage.after_work (hp : Plain env r n p s) (h : Stage r n p s d t) (hd : d.turn .work = true) :
    Stage r n p s (d.after .work) (withEdges (sampleWork env true) t) := by
  simp only [Done.turn, Bool.and_eq_true, Bool.not_eq_true'] at hd
  obtain ⟨⟨⟨⟨hs, hr⟩, ho⟩, hw⟩, hm⟩ := hd
  have hshort : t.reverb.clearing = true → t.reverb.clearCount < 63 := by
    intro hc
    by_cases hx : Starts s
    · rw [(h.starts ho hx).2.2]
      decide
    · obtain ⟨h1, _, h3⟩ := h.clears fun hy => hx hy.2
      rw [h3, hw]
      exact hp.clearing (h1 ▸ hc)
  have worked := worked_sampleWork (env := env) hshort
  have hlevel : (sampleWork env true t).marks.missing.isSome = true := by
    rw [worked.frame]
    show t.marks.missing.isSome = true
    rw [h.level hm]
    rfl
  rw [withEdges, withEdges_sampleWork hlevel worked]
  generalize sampleWork env true t = u at *
  obtain ⟨hin, ⟨cj, cl, ct, hc, hk⟩, hout, hring, hcap, hwait, heng, ⟨q, hn⟩, hf⟩ := worked
  obtain ⟨hstate, hwanted, hcaptured⟩ := h.begun hs hw
  have hgen (m : Fin 32) : expectedGenerator t m = expectedGenerator s m := by
    simp only [expectedGenerator, h.gen hw]
  have hcur (m : Fin 32) : t.outputs[m].current = (outputNext s m).current := by rw [h.outputsRun ho m]
  have hno : NoticesAt n p s (d.after .work) u :=
    h.notices.keep (.inl rfl) hn rfl rfl rfl rfl (by rw [hf]) fun hx => by simp [hm] at hx
  rw [hf] at hno ⊢
  exact { h with
    ring := nofun
    handed := fun _ => by
      show u.ring = _
      rw [hring, h.ring hw]
    gen := nofun
    unbegun := fun hx => by simp [Done.after, hs] at hx
    begun := nofun
    recorded := fun _ _ => by
      show (u.capture.state = .running ↔ _) ∧ u.capture.wanted = _ ∧ (_ → u.capture.captured = _)
      by_cases hx : t.capture.state = .running
      · obtain ⟨h1, h2, h3⟩ := hcap hx
        exact ⟨iff_of_true h1 (hstate.1 hx), h2.trans hwanted, fun _ => by rw [h3, hcaptured]⟩
      · rw [hwait hx]
        exact ⟨hstate, hwanted, fun hy => absurd (hstate.2 hy) hx⟩
    inputs := fun hx => by simp [Done.after, hr] at hx
    inputsRun := nofun
    inputsNext := fun _ i => by
      show InputNext s i u.inputs[i]
      rw [hin]
      exact nextInput_next h.bank (h.inputsRun hr hw i) hp.loss
    core := fun hx => by simp [Done.after, hr] at hx
    coreRun := fun hx => by
      show (∀ k : Fin 128, u.reverb.injectionCurrent[k] = _) ∧ (∀ j : Fin 16, u.reverb.lineCurrent[j] = _) ∧
        ∀ k : Fin 512, u.reverb.tapCurrent[k] = _
      rw [cj, cl, ct]
      exact h.coreRun hx
    outputs := fun hx => by simp [Done.after, ho] at hx
    outputsRun := fun hx m => by
      show u.outputs[m] = { outputNext s m with runningPeak := u.outputs[m].runningPeak, clips := u.outputs[m].clips }
      rw [hout m, h.outputsRun ho m]
    engine := fun hx => by simp [Done.after, ho] at hx
    engineRun := fun _ => by
      show EngineNext s u.engine
      rw [heng]
      exact (h.engineRun ho).quieted _
    unquiet := nofun
    quiet := fun _ => by
      show u.engine.quiet = _
      rw [heng]
      simp only [quietNext, hcur, hgen, h.unquiet hw]
    clears := fun hx => by
      have hns : ¬ Starts s := fun hy => hx ⟨ho, hy⟩
      obtain ⟨h1, h2, h3⟩ := h.clears fun hy => hns hy.2
      refine ⟨hc.trans h1, h2, hk.trans ?_⟩
      rw [h3, hw, clearingPeriod, h1, h2, Bool.not_false, Bool.and_true]
      rfl
    starts := fun _ hx => by
      obtain ⟨h1, h2, h3⟩ := h.starts ho hx
      refine ⟨hc.trans h1, h2, hk.trans ?_⟩
      rw [clearingPeriod, h2, Bool.not_true, Bool.and_false, h3]
      rfl
    notices := hno }

theorem Stage.after_captureEnd (h : Stage r n p s d t) (hd : d.turn .captureEnd = true) :
    Stage r n p s (d.after .captureEnd) (captureEnd t) := by
  simp only [Done.turn, Bool.and_eq_true, Bool.not_eq_true'] at hd
  obtain ⟨⟨⟨hs, hw⟩, hc⟩, hm⟩ := hd
  obtain ⟨hstate, hwanted, hcaptured⟩ := h.recorded hw hc
  have hn := reported_captureEnd t
  have hf := captureEnd_frame t
  generalize Machine.captureEnd t = u at *
  have hno : NoticesAt n p s (d.after .captureEnd) u := by
    refine h.notices.report hn rfl fun k _ _ => ?_
    have hb : u.backoff = t.backoff := by rw [hf]
    rw [hstate, hwanted]
    cases k <;> simp [Occurs, Done.after, hc, hm, hb]
    exact fun hr => by rw [hcaptured hr]
  rw [hf] at hno ⊢
  exact { h with
    unbegun := fun hx => by simp [Done.after, hs] at hx
    begun := fun _ hx => by simp [Done.after, hw] at hx
    recorded := nofun
    notices := hno }

theorem Stage.after_missingEdge (h : Stage r n p s d t) (hd : d.turn .missingEdge = true) :
    Stage r n p s (d.after .missingEdge) (missingEdge t) := by
  simp only [Done.turn, Bool.and_eq_true, Bool.not_eq_true'] at hd
  obtain ⟨hw, hm⟩ := hd
  obtain ⟨hf, hn⟩ := missingEdge_of_some (h.level hm)
  generalize Machine.missingEdge t = u at *
  have hno : NoticesAt n p s (d.after .missingEdge) u := by
    refine h.notices.report hn rfl fun k _ _ => ?_
    have hb : u.backoff = t.backoff := by rw [hf]
    have hi : inputMissing u = inputMissing t := by rw [hf]; rfl
    cases k <;> simp [Occurs, Done.after, hm, hb, hi]
  rw [hf] at hno ⊢
  exact { h with
    level := nofun
    notices := hno }

theorem Stage.after_event (hp : Plain env r n p s) (h : Stage r n p s d t) (hd : d.turn .event = true) :
    Stage r n p s (d.after .event) (takeEvent env t) := by
  have he : d.event = false := by simpa [Done.turn] using hd
  obtain ⟨K, hk, hr⟩ := h.notices
  have hr : Reported False K s.notices t.notices := hr.offered_iff (by simp [he])
  by_cases hq : p
  · have hn : (Machine.offerIdle t).notices = { t.notices with queue := t.notices.queue.tail } := offerIdle_notices t
    have hno : NoticesAt n p s (d.after .event) (offerIdle t) := by
      have hb : (offerIdle t).backoff = t.backoff := by rw [offerIdle_frame]
      have hi : inputMissing (offerIdle t) = inputMissing t := by
        rw [offerIdle_frame]
        rfl
      refine ⟨K, fun k h1 h2 => (hk k h1 h2).trans (occurs_congr rfl rfl rfl hb (fun _ => hi) k).symm, ?_⟩
      · rw [hn]
        exact hr.pop.offered_iff (by simp [Done.after, hq])
    rw [hp.idle hq t h.node]
    have hf := offerIdle_frame t
    generalize offerIdle t = u at *
    rw [hf] at hno ⊢
    exact { h with
      notices := hno
      notice := fun hx => absurd ⟨rfl, hq⟩ hx }
  · rw [hp.quiet hq t h.node]
    exact { h with
      notices := ⟨K, fun k h1 h2 => (hk k h1 h2).trans (occurs_congr rfl rfl rfl rfl (fun _ => rfl) k).symm,
        hr.offered_iff (by simp [hq])⟩
      notice := fun _ => h.notice fun hx => hq hx.2 }

theorem Stage.commit_not_due (hp : Plain env r n p s) (h : Stage r n p s d t) (hd : d.turn .commitStart = true) :
    commitDue env.slip t = false := by
  simp only [Done.turn, Bool.and_eq_true, Bool.not_eq_true'] at hd
  have hn : t.ring.frameNumber = n := by rw [h.ring hd.2, hp.number]
  unfold commitDue
  rw [h.engine hd.1, hn]
  split
  · next f hs hf =>
    rw [← Bool.not_eq_true]
    exact fun hx => hp.commit hs f hf ((frameReached_iff hp.slip).1 hx)
  · rfl

theorem Stage.clearing_short (hp : Plain env r n p s) (h : Stage r n p s d t) (hc : t.reverb.clearing = true) :
    t.reverb.clearCount < 64 := by
  by_cases hx : d.outputs = true ∧ Starts s
  · rw [(h.starts hx.1 hx.2).2.2]
    decide
  · obtain ⟨h1, _, h3⟩ := h.clears hx
    have := hp.clearing (h1 ▸ hc)
    rw [h3]
    split <;> omega

theorem Stage.no_held_recall (hp : Plain env r n p s) (h : Stage r n p s d t) :
    ¬ (recallReason t = true ∧ t.store.count = 0) := by
  have hs : t.store.state = .idle ∨ 1 ≤ t.store.count := by
    cases hd : d.store with
    | false =>
      rw [h.uncounted hd]
      exact hp.store.imp_right fun h2 => Nat.le_of_succ_le h2
    | true =>
      rw [h.counted hd]
      split
      · next hi => exact .inl hi
      · next hi => exact .inr (Nat.le_sub_of_add_le (hp.store.resolve_left hi))
  rintro ⟨hr, hc⟩
  rcases hs with hi | hi
  · simp [recallReason, hi] at hr
  · omega

/-- Every task of a block boundary, taken at its turn, leads from one stage to the next. -/
theorem Stage.after_task (hp : Plain env r n p s) (h : Stage r n p s d t) {k : Task} (hd : d.turn k = true) :
    Stage r n p s (d.after k) (runTask env true k t) := by
  cases k with
  | relockEdge =>
    rw [runTask, relockEdge_of_none hp.relock]
    exact h
  | commitStart =>
    rw [runTask, commitStart_of_not_due (h.commit_not_due hp hd)]
    exact h
  | captureStart => exact h.after_captureStart hp hd
  | decay => exact h.after_decay hp hd
  | ramps => exact h.after_ramps hd
  | outputs => exact h.after_outputs hp hd
  | store => exact h.after_store hp hd
  | work => exact h.after_work hp hd
  | burstEnd => exact h.after_burst hd
  | captureEnd => exact h.after_captureEnd hd
  | clearingEnd =>
    rw [runTask, clearingEnd_of_short (h.clearing_short hp) (h.no_held_recall hp)]
    exact h
  | missingEdge => exact h.after_missingEdge hd
  | event => exact h.after_event hp hd

theorem Stage.after_tasks (hp : Plain env r n p s) {ts : List Task} (h : Stage r n p s d t) (hd : d.leads ts = true) :
    Stage r n p s Done.everything (runTasks env true ts t) := by
  induction ts generalizing d t with
  | nil => exact eq_everything_of_leads hd ▸ h
  | cons k ts ih =>
    rw [Done.leads, Bool.and_eq_true] at hd
    exact ih (h.after_task hp hd.1) hd.2

end

end Sys2Proof.Machine
end

section
/-! The work of a block boundary, from the command that brings its frame period to the state that it leaves (O36). -/

namespace Sys2Proof.Machine

/-! ### The frame period and its cell -/

theorem framePeriod_stage {env : Env} {r : Ring} {n : Nat} {p : Prop} {s : State} (hp : Plain env r n p s)
    (hn : n % 64 = 0) (hs : s.started = true ∨ s.marks.store = false) :
    Stage r n p s Done.everything (framePeriod env { s with ring := r, out := ⟨none, none, none⟩ }) := by
  have hb : isBoundary (beginPeriod { s with ring := r, out := ⟨none, none, none⟩ }) = true := by
    show (r.frameNumber % 64 == 0) = true
    rw [hp.number, hn]
    rfl
  unfold framePeriod
  dsimp only
  rw [hb]
  exact (stage_begin hs ⟨none, none, none⟩ rfl rfl).after_tasks hp (leads_plan _ _ _)

/-- A cell that asks nothing of the node is at most an IDLE cell, which the node is offered (R34, R35). -/
theorem takeCell_of_asksNothing {f : Frame} {s t : State} (h : AsksNothing (cellOf f) s) (hn : t.node = s.node) :
    takeCell f t = if cellKind (cellOf f) = 0 then offerIdle t else t := by
  unfold takeCell decodeCell
  by_cases hk : cellKind (cellOf f) = 1
  · obtain ⟨ht, hb⟩ := h hk
    have hq : ¬ Heard (decodeHeader (cellOf f)) t := by
      rintro ⟨_, _, _, hx | hx⟩
      · exact ht (hn ▸ hx)
      · simp [decodeHeader, bitOf, hb] at hx
    rw [if_pos hk, if_neg (by rw [hk]; decide)]
    exact handle_of_not_heard _ hq
  · rw [if_neg hk]

/-! ### The commands that bring a frame period -/

/-- A ring as the arrival of a frame leaves it for its frame period. -/
structure RingOfArrival (r s : Ring) (n : Nat) : Prop where
  number : r.frameNumber = n
  lock   : r.lock = s.lock
  back   : r.handBack = s.handBack
  signal : r.signal = true
  gap    : r.gap = 0

theorem countClass_keeps (c : FrameClass) (r : Ring) : (countClass c r).lock = r.lock ∧
    (countClass c r).handBack = r.handBack ∧ (countClass c r).frameNumber = r.frameNumber ∧
    (countClass c r).errors = r.errors := by
  cases c <;> exact ⟨rfl, rfl, rfl, rfl⟩

theorem goodCounted_keeps (r : Ring) : (goodCounted r).lock = r.lock ∧ (goodCounted r).handBack = r.handBack ∧
    (goodCounted r).signal = r.signal ∧ (goodCounted r).gap = r.gap := by
  unfold goodCounted
  split <;> exact ⟨rfl, rfl, rfl, rfl⟩

/-- An arrival of `BringsPeriod` is a frame period with its environment and ring, and a frame sent. -/
theorem arrive_period {g : Frame} {s : State} {n : Nat} {u : Option Frame} (hl : s.ring.lock = .locked)
    (h : classify g = .good ∧ u = some g ∧ n = frameNumberOf g ∧ AsksNothing (cellOf g) s ∧
        (Slipped n s → s.ring.errors + 1 < s.node.threshold) ∨
      classify g = .flagged ∧ u = none ∧ n = (s.ring.frameNumber + 1) % 16777216 ∨
      classify g = .bad ∧ u = none ∧ n = (s.ring.frameNumber + 1) % 16777216 ∧
        s.ring.errors + 1 < s.node.threshold) :
    ∃ usable slip r, (∃ frame, arrive g s = send frame
        (framePeriod (arrivalEnv g usable slip false false) { s with ring := r, out := ⟨none, none, none⟩ })) ∧
      RingOfArrival r s.ring n ∧ (slip = true ↔ Slipped n s) ∧
      (usable = true ∧ u = some g ∧ AsksNothing (cellOf g) s ∨ usable = false ∧ u = none) := by
  obtain ⟨cl, cb, cn, ce⟩ := countClass_keeps (classify g) s.ring
  have hnp : nextFrame (present (classify g) s).ring.frameNumber = (s.ring.frameNumber + 1) % 16777216 := by
    show nextFrame (countClass (classify g) s.ring).frameNumber = _
    rw [cn]
    rfl
  have ha : arrive g s = lockedArrival (classify g) g (present (classify g) s) := by
    unfold arrive
    dsimp only
    rw [hl]
  have hlast : s.ring.errors + 1 < s.node.threshold → lastError (present (classify g) s) = false := fun hthr => by
    unfold lastError
    rw [decide_eq_false_iff_not]
    show ¬ s.node.threshold ≤ (countClass (classify g) s.ring).errors + 1
    rw [ce]
    omega
  have hcounted : ∀ m, RingOfArrival { errorCounted (present (classify g) s).ring with frameNumber := m } s.ring m :=
    fun m => ⟨rfl, cl, cb, rfl, rfl⟩
  rw [ha]
  generalize classify g = k at *
  rcases h with ⟨rfl, hu, hn, hask, hslip⟩ | ⟨rfl, hu, hn⟩ | ⟨rfl, hu, hn, hthr⟩
  · by_cases hs : frameNumberOf g = (s.ring.frameNumber + 1) % 16777216
    · have hns : ¬ Slipped n s := fun hx => hx.2 (hn.trans hs)
      obtain ⟨gl, gb, gs, gg⟩ := goodCounted_keeps (present .good s).ring
      refine ⟨true, false, { goodCounted (present .good s).ring with frameNumber := n }, ?_,
        ⟨rfl, gl.trans cl, gb.trans cb, gs, gg⟩, by simp [hns], .inl ⟨rfl, hu, hask⟩⟩
      rw [lockedArrival, if_pos (hs.trans hnp.symm), hn, hs, ← hnp]
      exact ⟨_, rfl⟩
    · have hsl : Slipped n s := ⟨hl, fun hx => hs (hn.symm.trans hx)⟩
      refine ⟨true, true, { errorCounted (present .good s).ring with frameNumber := n }, ?_, hcounted n,
        by simp [hsl], .inl ⟨rfl, hu, hask⟩⟩
      rw [lockedArrival, if_neg (fun hx => hs (hx.trans hnp)), slipArrival, hlast (hslip hsl), hn]
      exact ⟨_, rfl⟩
  · have hns : ¬ Slipped n s := fun hx => hx.2 hn
    refine ⟨false, false, { (present .flagged s).ring with frameNumber := n }, ?_, ⟨rfl, cl, cb, rfl, rfl⟩,
      by simp [hns], .inr ⟨rfl, hu⟩⟩
    rw [lockedArrival, flaggedArrival, hnp, hn]
    exact ⟨_, rfl⟩
  · have hns : ¬ Slipped n s := fun hx => hx.2 hn
    refine ⟨false, false, { errorCounted (present .bad s).ring with frameNumber := n }, ?_, hcounted n,
      by simp [hns], .inr ⟨rfl, hu⟩⟩
    rw [lockedArrival, badArrival, hnp, hn, hlast hthr]
    exact ⟨_, rfl⟩

/-- State `t` is what a block boundary's frame period leaves, with the frame sent and the gap counted. -/
def Settled (n : Nat) (p : Prop) (s t : State) : Prop :=
  ∃ r v gap frame, Stage r n p s Done.everything v ∧ r.frameNumber = n ∧ r.lock = s.ring.lock ∧
    r.handBack = s.ring.handBack ∧ (s.ring.lock = .locked → r.signal = true ∧ gap = 0) ∧
    t = { v with ring := { v.ring with gap := gap }, out := { v.out with frame := frame } }

theorem exec_arrival_settled {g : Frame} {f u : Option Frame} {n : Nat} {s : State} (h : PlainPeriod (.arrival g) f u n s)
    (hn : n % 64 = 0) (hst : s.started = true ∨ s.marks.store = false)
    (hd : ∀ e, s.decay.current = some e → e.bank ≠ s.active) (hs : s.store.state = .idle ∨ 2 ≤ s.store.count) :
    ∃ t, exec (.arrival g) s = .next t ∧ Settled n (OffersIdle u) s t := by
  obtain ⟨works, ⟨g', hg, -, hl, hsource⟩ | ⟨hx, _⟩, hcommit, -, hclear⟩ := h
  swap
  · exact absurd hx (by simp)
  obtain rfl : g = g' := by simpa using hg
  obtain ⟨usable, slip, r, ⟨frame, hf⟩, ⟨rn, rl, rb, rs, rg⟩, hslip, hcell⟩ := arrive_period hl hsource
  have hevent (t : State) : takeEvent (arrivalEnv g usable slip false false) t = if usable then takeCell g t else t := rfl
  have plain : Plain (arrivalEnv g usable slip false false) r n (OffersIdle u) s := {
    relock := rfl, loss := rfl, slip := hslip, number := rn, lock := rl, commit := hcommit, clearing := hclear
    store := hs, decay := hd
    idle := fun hp t ht => by
      obtain ⟨g', hu', hk⟩ := hp
      rcases hcell with ⟨rfl, hu, hask⟩ | ⟨_, hu⟩
      · obtain rfl : g = g' := by simpa using hu.symm.trans hu'
        rw [hevent, if_pos rfl, takeCell_of_asksNothing hask ht]
        exact if_pos hk
      · rw [hu] at hu'
        contradiction
    quiet := fun hp t ht => by
      rcases hcell with ⟨rfl, hu, hask⟩ | ⟨rfl, hu⟩
      · rw [hevent, if_pos rfl, takeCell_of_asksNothing hask ht]
        exact if_neg fun hk => hp ⟨g, hu, hk⟩
      · rfl }
  have stage := framePeriod_stage plain hn hst
  have he : exec (.arrival g) s = .next (arrive g s) := by
    show execArrival g s = _
    simp [execArrival, works.powered, works.free]
  rw [he, hf]
  generalize framePeriod (arrivalEnv g usable slip false false) { s with ring := r, out := ⟨none, none, none⟩ } = v at *
  refine ⟨_, rfl, r, v, v.ring.gap, some frame, stage, rn, rl, rb, fun _ => ⟨rs, ?_⟩, rfl⟩
  rw [stage.handed rfl]
  exact rg

theorem exec_oscillator_settled {f u : Option Frame} {n : Nat} {s : State} (h : PlainPeriod .oscillatorFramePeriod f u n s)
    (hn : n % 64 = 0) (hst : s.started = true ∨ s.marks.store = false)
    (hd : ∀ e, s.decay.current = some e → e.bank ≠ s.active) (hs : s.store.state = .idle ∨ 2 ≤ s.store.count) :
    ∃ t, exec .oscillatorFramePeriod s = .next t ∧ Settled n (OffersIdle u) s t := by
  obtain ⟨works, ⟨g', hg, _⟩ | ⟨-, -, hu, hl, hgap, hnum⟩, hcommit, -, hclear⟩ := h
  · exact absurd hg (by simp)
  have hns : ¬ Slipped n s := fun hx => hl hx.1
  have hni : ¬ OffersIdle u := by
    rintro ⟨g, hg, _⟩
    rw [hu] at hg
    contradiction
  have hno : oscillatorNumber { s with out := ⟨none, none, none⟩ } = n := hnum.symm
  have plain : Plain oscillatorEnv { s.ring with frameNumber := n } n (OffersIdle u) s := {
    relock := rfl, loss := rfl, slip := by simp [oscillatorEnv, hns], number := rfl, lock := rfl, commit := hcommit
    clearing := hclear, store := hs, decay := hd
    idle := fun hp => absurd hp hni
    quiet := fun _ _ _ => rfl }
  have stage := framePeriod_stage plain hn hst
  have he : exec .oscillatorFramePeriod s = .next (countGap (framePeriod oscillatorEnv
      { s with ring := { s.ring with frameNumber := n }, out := ⟨none, none, none⟩ })) := by
    show execOscillatorFramePeriod s = _
    rw [execOscillatorFramePeriod, if_pos (by simp [working, works.powered, works.free]), oscillator, if_neg hl,
      oscillatorPeriod, hno]
    rfl
  rw [he]
  generalize framePeriod oscillatorEnv
    { s with ring := { s.ring with frameNumber := n }, out := ⟨none, none, none⟩ } = v at *
  have hv := stage.handed rfl
  have hsig : v.ring.signal = s.ring.signal := by rw [hv]
  have hg : v.ring.gap = s.ring.gap := by rw [hv]
  obtain ⟨gap, hc⟩ : ∃ gap, countGap v = { v with ring := { v.ring with gap := gap } } := by
    unfold countGap
    split
    · next hx =>
      have hlt : s.ring.gap < 3 := hgap (hsig ▸ hx)
      rw [if_neg (show ¬ Config.lossGap ≤ v.ring.gap + 1 by rw [hg]; unfold Config.lossGap; omega)]
      exact ⟨_, rfl⟩
    · exact ⟨v.ring.gap, rfl⟩
  exact ⟨_, rfl, _, v, gap, v.out.frame, stage, rfl, rfl, rfl, fun hx => absurd hx hl, hc⟩

theorem exec_settled {c : Instr} {f u : Option Frame} {n : Nat} {s : State} (h : PlainPeriod c f u n s)
    (hn : n % 64 = 0) (hst : s.started = true ∨ s.marks.store = false)
    (hd : ∀ e, s.decay.current = some e → e.bank ≠ s.active) (hs : s.store.state = .idle ∨ 2 ≤ s.store.count) :
    ∃ t, exec c s = .next t ∧ Settled n (OffersIdle u) s t := by
  rcases h.source with ⟨g, rfl, _⟩ | ⟨rfl, _⟩
  · exact exec_arrival_settled h hn hst hd hs
  · exact exec_oscillator_settled h hn hst hd hs

end Sys2Proof.Machine
end

section
/-! O36, read off the stage in which every task of the block boundary is done. -/

namespace Sys2Proof.Machine

theorem commitOwed_iff (s : State) : commitOwed s = true ↔
    (∃ mode, s.engine.operation = .commit mode) ∨ (s.engine.operation = .reset ∧ s.engine.owed = true) := by
  unfold commitOwed
  cases s.engine.operation <;> simp

/-- The kinds of which a block boundary may report an occurrence. -/
def boundaryKinds : List NoticeKind :=
  [.inputMissing, .guardActive, .backoffActive, .sceneBusy, .commitDone, .captureDone, .guardLimit, .clip, .decayClamped]

/-- Where a block boundary brings an occurrence, its kind is one of those it may report. -/
theorem mem_boundaryKinds_of_occurs {n : Nat} {s t : State} {d : Done} {k : NoticeKind} (h : Occurs n s d t k) :
    k ∈ boundaryKinds := by
  cases k <;> simp [Occurs, BoundaryOccurs, boundaryKinds] at h ⊢

section
variable {r : Ring} {n : Nat} {p : Prop} {s v : State}

theorem Stage.output (h : Stage r n p s Done.everything v) (m : Fin 32) :
    v.outputs[m].lastPeak = s.outputs[m].runningPeak ∧ v.outputs[m].guard = guardNext s m ∧
      v.outputs[m].current = (outputNext s m).current := by
  rw [h.outputsRun rfl m]
  exact ⟨rfl, rfl, rfl⟩

theorem Stage.expectedTarget_eq (h : Stage r n p s Done.everything v) (m : Fin 32) :
    expectedTarget s v m = nextTarget s m := by
  obtain ⟨_, hg, _⟩ := h.output m
  simp only [expectedTarget, nextTarget, hg]

theorem Stage.starts_iff (h : Stage r n p s Done.everything v) :
    (s.engine.state = .fadeOut ∧ s.engine.quiet = 2 ∧ ∀ m : Fin 32, v.outputs[m].current = 1536) ↔ Starts s := by
  have hc (m : Fin 32) : v.outputs[m].current = (outputNext s m).current := (h.output m).2.2
  simp only [Starts, hc]

theorem Stage.ends_iff (h : Stage r n p s Done.everything v) :
    (s.engine.state = .fadeIn ∧ ∀ m : Fin 32, v.outputs[m].current = expectedTarget s v m) ↔ Ends s := by
  have hc (m : Fin 32) : v.outputs[m].current = (outputNext s m).current := (h.output m).2.2
  simp only [Ends, hc, h.expectedTarget_eq]

theorem Stage.latched_iff (h : Stage r n p s Done.everything v) {k : NoticeKind} (h1 : k ≠ .clip) (h2 : k ≠ .decayClamped) :
    latched v k = true ↔ latched s k = true ∨ Occurs n s Done.everything v k := by
  obtain ⟨K, hK, hrep⟩ := h.notices
  rw [← hK k h1 h2]
  exact hrep.flags k

theorem Stage.noticesMoved {u : Option Frame} (h : Stage r n (OffersIdle u) s Done.everything v) :
    NoticesMoved boundaryKinds u s v := by
  obtain ⟨K, hK, hrep⟩ := h.notices
  have hkinds (k : NoticeKind) (hk : K k) : k ∈ boundaryKinds := by
    by_cases h1 : k = .clip
    · rw [h1]; decide
    · by_cases h2 : k = .decayClamped
      · rw [h2]; decide
      · exact mem_boundaryKinds_of_occurs ((hK k h1 h2).1 hk)
  refine ⟨fun k hk => (hrep.flags k).2 (.inl hk), fun k hk => ?_, fun ho => hrep.left ⟨rfl, ho⟩ _ hkinds, fun ho => ?_,
    h.answer⟩
  · rw [Bool.eq_iff_iff]
    exact (hrep.flags k).trans (or_iff_left fun hx => hk (hkinds k hx))
  · exact ⟨h.notice fun hx => ho hx.2, (hrep.kept (fun hx => ho hx.2) _ hkinds).1⟩

end

/-- Settles O36: every order of a block boundary's tasks ends in the stage in which all of them are done. -/
theorem blockBoundaryWork : Obligations.BlockBoundaryWork := by
  unfold Obligations.BlockBoundaryWork
  intro c f u n s h hn hst hd hs b atLimit
  obtain ⟨t, he, r, v, gap, frame, stage, rn, rl, rb, rs, rfl⟩ := exec_settled h hn hst hd hs
  have hv := stage.handed rfl
  have hcur (m : Fin 32) : v.outputs[m].current = (outputNext s m).current := (stage.output m).2.2
  have hclears : ¬ Starts s → v.reverb.clearing = s.reverb.clearing ∧ v.reverb.clearCount =
      if s.reverb.clearing = true then s.reverb.clearCount + 1 else s.reverb.clearCount := fun hx =>
    ⟨(stage.clears fun hy => hx hy.2).1, (stage.clears fun hy => hx hy.2).2.2⟩
  have hquiet := stage.quiet rfl
  simp only [← hcur] at hquiet
  have moved := stage.noticesMoved
  have hstarts := stage.starts_iff
  have hends := stage.ends_iff
  have howed := commitOwed_iff s
  refine ⟨_, he, stage.started, ?_, ?_, ?_, fun hl => ⟨?_, ?_, ?_⟩, stage.active, stage.bank, stage.counted rfl, fun m => ?_,
    (stage.backoffRun rfl).still, fun hx => ⟨?_, (stage.backoffRun rfl).limited hx⟩,
    fun i => ⟨(stage.inputsNext rfl i).steps, (stage.inputsNext rfl i).enters⟩,
    (stage.coreRun rfl).1, (stage.coreRun rfl).2.1, (stage.coreRun rfl).2.2, fun hq => ?_, fun hq => ?_, ?_,
    ⟨moved.holds, moved.flags, moved.offered, moved.kept, moved.answer⟩, ?_, ?_, ?_, ?_, ?_⟩
  · show v.ring.frameNumber = n
    rw [hv, ← rn]
  · show v.ring.lock = s.ring.lock
    rw [hv, ← rl]
  · show v.ring.handFront = s.ring.handBack
    rw [hv, ← rb]
  · show v.ring.handFront = s.ring.handBack
    rw [hv, ← rb]
  · show v.ring.signal = true
    rw [hv]
    exact (rs hl).1
  · exact (rs hl).2
  · obtain ⟨h1, h2, h3⟩ := stage.output m
    refine ⟨h1, h2, ?_⟩
    show v.outputs[m].current = steppedToward s (expectedTarget s v m) _
    rw [h3, stage.expectedTarget_eq]
    rfl
  · exact (stage.latched_iff (by decide) (by decide)).2 (.inr ⟨rfl, hx⟩)
  · exact hquiet.trans (if_pos hq)
  · obtain ⟨m, hm⟩ := hq
    exact hquiet.trans (if_neg fun hx => hm.elim (fun h1 => h1 (hx m).1) fun h2 => h2 (hx m).2)
  · refine ⟨fun hx => ?_, fun hx => ⟨?_, ?_, fun ho => ?_⟩, fun h1 h2 => ?_, fun hx => ?_, ?_, ?_⟩
    · have hx := hstarts.1 hx
      obtain ⟨h1, _, h3⟩ := stage.starts rfl hx
      exact ⟨(stage.engineRun rfl).starts hx, h1, h3⟩
    · exact (stage.engineRun rfl).ends (hends.1 hx)
    · exact (stage.latched_iff (by decide) (by decide)).2 (.inr ⟨rfl, hends.1 hx⟩)
    · exact (stage.latched_iff (by decide) (by decide)).2 (.inr ⟨rfl, hends.1 hx, howed.2 ho⟩)
    · exact (stage.engineRun rfl).stays (fun hx => h1 (hstarts.2 hx)) fun hx => h2 (hends.2 hx)
    · exact hclears fun hy => hx (hstarts.2 hy)
    · refine (stage.latched_iff (k := .sceneBusy) (by decide) (by decide)).trans (or_congr_right ?_)
      exact (and_iff_right rfl).trans hends.symm
    · refine (stage.latched_iff (k := .commitDone) (by decide) (by decide)).trans (or_congr_right ?_)
      exact (and_iff_right rfl).trans (and_congr hends.symm howed)
  · refine (stage.latched_iff (k := .guardLimit) (by decide) (by decide)).trans (or_congr_right ?_)
    exact and_iff_right rfl
  · refine (stage.latched_iff (k := .guardActive) (by decide) (by decide)).trans (or_congr_right ?_)
    have hg : (∃ m : Fin 32, v.outputs[m].guard.state ≠ .watch) ↔ ∃ m, (guardNext s m).state ≠ .watch :=
      exists_congr fun m => by rw [(stage.output m).2.1]
    exact (and_iff_right rfl).trans (not_congr (iff_congr Iff.rfl hg.symm))
  · refine (stage.latched_iff (k := .backoffActive) (by decide) (by decide)).trans (or_congr_right ?_)
    exact and_iff_right rfl
  · refine (stage.latched_iff (k := .captureDone) (by decide) (by decide)).trans (or_congr_right ?_)
    exact and_iff_right rfl
  · refine (stage.latched_iff (k := .inputMissing) (by decide) (by decide)).trans (or_congr_right ?_)
    exact and_iff_right rfl

end Sys2Proof.Machine
end

section
/-! What the blocks' own work leaves of the books: the ring, the node record and the outgoing cell stand, the recompute
queue holds no pair twice, the notice queue takes fitting occurrences only, and no counter leaves its range (R36, R85,
R192 to R195, R199). The counts of the ring and what a request makes of the books follow after it. -/

namespace Sys2Proof.Machine

/-! ### Occurrences taken into the queue -/

/-- An occurrence has an edge exactly where its kind is a level (R192). -/
def EdgeFits (k : NoticeKind) (e : Edge) : Prop := e = .none ↔ k ∉ levelKinds

/-- Queue `p` is queue `q` after enabled occurrences of the frame period of number `n`, one after another (R194, R195). -/
inductive Reports (n : Nat) (en : Enables) (q : List NoticeEntry) : List NoticeEntry → Prop
  | none : Reports n en q q
  | next {p : List NoticeEntry} {k : NoticeKind} {e : Edge} (h : Reports n en q p) (fits : EdgeFits k e)
      (on : enabled en k e = true) : Reports n en q (enqueue n k e p)

theorem Reports.trans {n : Nat} {en : Enables} {q p r : List NoticeEntry} (h : Reports n en q p) (g : Reports n en p r) :
    Reports n en q r := by
  induction g with
  | none => exact h
  | next _ fits on ih => exact ih.next fits on

theorem reports_report {k : NoticeKind} {e : Edge} (fits : EdgeFits k e) (s : State) :
    Reports s.ring.frameNumber s.node.enables s.notices.queue (report k e s).notices.queue := by
  unfold report
  dsimp only
  split
  · next on => exact Reports.none.next fits on
  · exact .none

theorem kinds_enqueue (n : Nat) (k : NoticeKind) (e : Edge) (q : List NoticeEntry) :
    (enqueue n k e q).map NoticeEntry.kind =
      if k ∈ q.map NoticeEntry.kind then q.map NoticeEntry.kind else q.map NoticeEntry.kind ++ [k] := by
  induction q with
  | nil => rfl
  | cons x q ih =>
    unfold enqueue
    split
    · next h => simp [h]
    · next h =>
      rw [List.map_cons, ih, List.map_cons]
      have hx : k ∈ x.kind :: q.map NoticeEntry.kind ↔ k ∈ q.map NoticeEntry.kind := by
        simp [List.mem_cons, Ne.symm h]
      simp only [hx]
      split <;> rfl

theorem entryLegal_enqueue {n : Nat} {k : NoticeKind} {e : Edge} (fits : EdgeFits k e) {q : List NoticeEntry}
    (h : ∀ x ∈ q, EntryLegal x) : ∀ x ∈ enqueue n k e q, EntryLegal x := by
  induction q with
  | nil =>
    have hx : EntryLegal ⟨k, n, 1, e⟩ := ⟨⟨Nat.le_refl 1, Nat.succ_le_succ (Nat.zero_le 254)⟩, fits⟩
    simpa [enqueue] using hx
  | cons y q ih =>
    obtain ⟨hy, hq⟩ := List.forall_mem_cons.1 h
    unfold enqueue
    split
    · next hk =>
      refine List.forall_mem_cons.2 ⟨⟨⟨?_, Nat.min_le_right _ _⟩, hk ▸ fits⟩, hq⟩
      exact Nat.le_min.2 ⟨Nat.succ_le_succ (Nat.zero_le _), by decide⟩
    · exact List.forall_mem_cons.2 ⟨hy, ih hq⟩

/-- Occurrences leave at most one entry of each kind, each legal (R195). -/
theorem Reports.noticesLegal {n : Nat} {en : Enables} {q p : List NoticeEntry} (h : Reports n en q p)
    (hq : NoticesLegal q) : NoticesLegal p := by
  induction h with
  | none => exact hq
  | next _ fits _ ih =>
    refine ⟨?_, entryLegal_enqueue fits ih.entries⟩
    rw [kinds_enqueue]
    split
    · exact ih.kinds
    · next hk => exact ih.kinds.append (List.nodup_singleton _) (List.disjoint_singleton.2 hk)

/-! ### The work of the blocks -/

/-- The work from `s` to `t` is of the blocks alone: pins, ring, node record, outgoing cell and the count of malformed
cells stand, and the books are kept. -/
structure BlockWork (s t : State) : Prop where
  powered    : t.powered = s.powered := by rfl
  resetPin   : t.resetPin = s.resetPin := by rfl
  started    : t.started = s.started := by rfl
  node       : t.node = s.node := by rfl
  ring       : t.ring = s.ring := by rfl
  out        : t.out = s.out := by rfl
  badCells   : t.badCells = s.badCells := by rfl
  recomputes : s.decay.queue.Nodup → t.decay.queue.Nodup := by exact id
  reports    : Reports s.ring.frameNumber s.node.enables s.notices.queue t.notices.queue := by exact .none
  invalid    : ∀ i : Fin 24, s.inputs[i].invalid ≤ Config.counterTop → t.inputs[i].invalid ≤ Config.counterTop := by
    exact fun _ h => h
  lineClips  : ∀ j : Fin 16, s.reverb.lineClips[j] ≤ Config.counterTop → t.reverb.lineClips[j] ≤ Config.counterTop := by
    exact fun _ h => h
  clips      : ∀ m : Fin 32, s.outputs[m].clips ≤ Config.counterTop → t.outputs[m].clips ≤ Config.counterTop := by
    exact fun _ h => h

theorem BlockWork.refl (s : State) : BlockWork s s := {}

theorem BlockWork.trans {s t u : State} (h : BlockWork s t) (g : BlockWork t u) : BlockWork s u where
  powered := g.powered.trans h.powered
  resetPin := g.resetPin.trans h.resetPin
  started := g.started.trans h.started
  node := g.node.trans h.node
  ring := g.ring.trans h.ring
  out := g.out.trans h.out
  badCells := g.badCells.trans h.badCells
  recomputes hq := g.recomputes (h.recomputes hq)
  reports := h.reports.trans (h.ring ▸ h.node ▸ g.reports)
  invalid i hi := g.invalid i (h.invalid i hi)
  lineClips j hj := g.lineClips j (h.lineClips j hj)
  clips m hm := g.clips m (h.clips m hm)

theorem BlockWork.foldl {α : Type} {f : State → α → State} (hf : ∀ s a, BlockWork s (f s a)) (l : List α) (s : State) :
    BlockWork s (l.foldl f s) := by
  induction l generalizing s with
  | nil => exact .refl s
  | cons a l ih => exact (hf s a).trans (ih (f s a))

/-! #### Reports -/

theorem blockWork_report {k : NoticeKind} {e : Edge} (fits : EdgeFits k e) (s : State) : BlockWork s (report k e s) :=
  { reports := reports_report fits s }

theorem blockWork_pulse {k : NoticeKind} (hk : k ∉ levelKinds) (s : State) : BlockWork s (pulse k s) :=
  blockWork_report (iff_of_true rfl hk) s

theorem blockWork_pulseIf {k : NoticeKind} (hk : k ∉ levelKinds) (b : Bool) (s : State) : BlockWork s (pulseIf b k s) := by
  cases b with
  | false => exact .refl s
  | true => exact blockWork_pulse hk s

theorem blockWork_levelEdge {k : NoticeKind} (hk : k ∈ levelKinds) (was : Bool) (s : State) :
    BlockWork s (levelEdge was k s) := by
  unfold levelEdge
  split
  · exact blockWork_report (e := .rise) (iff_of_false nofun (not_not.2 hk)) s
  · exact blockWork_report (e := .fall) (iff_of_false nofun (not_not.2 hk)) s
  · exact .refl s

theorem blockWork_edgeOf {k : NoticeKind} (hk : k ∈ levelKinds) (old s : State) : BlockWork s (edgeOf old s k) := by
  unfold edgeOf
  split
  · exact .refl s
  · exact blockWork_levelEdge hk _ s

theorem blockWork_edges (old new : State) : BlockWork new (edges old new) := by
  have hl : ∀ l : List NoticeKind, (∀ k ∈ l, k ∈ levelKinds) → ∀ s, BlockWork s (l.foldl (edgeOf old) s) := by
    intro l
    induction l with
    | nil => exact fun _ s => .refl s
    | cons k l ih =>
      exact fun h s => (blockWork_edgeOf (h k List.mem_cons_self) old s).trans
        (ih (fun j hj => h j (List.mem_cons_of_mem k hj)) _)
  exact hl levelKinds (fun _ h => h) new

theorem BlockWork.withEdges {f : State → State} {s : State} (h : BlockWork s (f s)) : BlockWork s (withEdges f s) :=
  h.trans (blockWork_edges s (f s))

theorem blockWork_missingEdge (s : State) : BlockWork s (missingEdge s) := by
  unfold missingEdge
  split
  · exact BlockWork.trans (t := { s with marks := { s.marks with missing := none } }) {}
      (blockWork_levelEdge (by decide) _ _)
  · exact .refl s

/-! #### The recompute queue -/

theorem nodup_appendEntry {q : List (BankName × Fin 16)} (h : q.Nodup) (e : BankName × Fin 16) : (appendEntry q e).Nodup := by
  unfold appendEntry
  split
  · exact h
  · next he =>
    rw [List.contains_eq_mem, decide_eq_true_eq] at he
    exact h.append (List.nodup_singleton e) (List.disjoint_singleton.2 he)

theorem blockWork_appendRecompute (s : State) (n : BankName) (j : Fin 16) : BlockWork s (appendRecompute s n j) :=
  { recomputes := fun h => nodup_appendEntry h _ }

theorem blockWork_dropRecomputes (s : State) (n : BankName) : BlockWork s (dropRecomputes s n) :=
  { recomputes := fun h => h.filter _ }

theorem blockWork_setBank (s : State) (n : BankName) (b : Bank) : BlockWork s (setBank s n b) := by
  cases n <;> exact {}

theorem blockWork_decayTake (s : State) : BlockWork s (decayTake s) := by
  unfold decayTake
  split
  · exact { recomputes := fun h => h.erase _ }
  · exact .refl s

theorem blockWork_decayCompletion (s : State) : BlockWork s (decayCompletion s) := by
  unfold decayCompletion
  split
  · split
    · exact (blockWork_setBank s _ _).trans (BlockWork.trans {} (blockWork_pulseIf (by decide) _ _))
    · exact .refl s
  · exact .refl s

theorem blockWork_decayBoundary (s : State) : BlockWork s (decayBoundary s) :=
  (blockWork_decayCompletion s).trans (blockWork_decayTake _)

/-! #### Inputs, core and outputs -/

/-- A sample moves the invalid-sample counter up by 1 at most, held at its top (R46, R54). -/
theorem invalid_takeSample (r : InputRec) (setTo : Nat) (sample : Option Sample) (u : InputUnit) :
    (takeSample r setTo sample u).invalid = u.invalid ∨ (takeSample r setTo sample u).invalid = bump u.invalid := by
  unfold takeSample
  split
  · exact .inl rfl
  · split
    · unfold received
      repeat' split
      all_goals exact .inl rfl
    · unfold missed
      split
      · exact .inl rfl
      · exact .inl rfl
      · exact .inl rfl
      · unfold substituted
        dsimp only
        split <;> exact .inr rfl

theorem blockWork_inputs (s : State) (v : Vector InputUnit 24)
    (h : ∀ i : Fin 24, s.inputs[i].invalid ≤ Config.counterTop → v[i].invalid ≤ Config.counterTop) :
    BlockWork s { s with inputs := v } :=
  { invalid := h }

theorem blockWork_reverb (s : State) (r : Reverb)
    (h : ∀ j : Fin 16, s.reverb.lineClips[j] ≤ Config.counterTop → r.lineClips[j] ≤ Config.counterTop) :
    BlockWork s { s with reverb := r } :=
  { lineClips := h }

theorem blockWork_outputs (s : State) (v : Vector OutputUnit 32)
    (h : ∀ m : Fin 32, s.outputs[m].clips ≤ Config.counterTop → v[m].clips ≤ Config.counterTop) :
    BlockWork s { s with outputs := v } :=
  { clips := h }

theorem blockWork_inputsWork (env : Env) (boundary : Bool) (s : State) : BlockWork s (inputsWork env boundary s) := by
  refine blockWork_inputs s _ fun i h => ?_
  simp only [Fin.getElem_fin, Vector.getElem_ofFn, nextInput]
  split
  · exact h
  · rcases invalid_takeSample (activeBank s).inputs[i] _ (offered env (activeBank s).inputs[i]) s.inputs[i] with hi | hi
    · exact Nat.le_trans (Nat.le_of_eq hi) h
    · exact Nat.le_trans (Nat.le_of_eq hi) (bump_le _)

/-- A change of every input that leaves its invalid-sample counter. -/
theorem blockWork_changeInputs (s : State) {f : Fin 24 → InputUnit → InputUnit} (hf : ∀ i u, (f i u).invalid = u.invalid) :
    BlockWork s { s with inputs := changeAll s.inputs f } :=
  blockWork_inputs s _ fun i h => by simpa only [getElem_changeAll, hf] using h

theorem blockWork_inputsRamp (s : State) : BlockWork s (inputsRamp s) := blockWork_changeInputs s fun _ _ => rfl

theorem blockWork_inputsLockLoss (s : State) : BlockWork s (inputsLockLoss s) :=
  blockWork_changeInputs s fun _ u => by split <;> rfl

theorem blockWork_inputsInstall (s : State) : BlockWork s (inputsInstall s) := blockWork_changeInputs s fun _ _ => rfl

theorem blockWork_reverbCompute (x : Vector Sample 24) (level : Nat) (s : State) : BlockWork s (reverbCompute x level s) := by
  refine (blockWork_reverb s _ fun j h => ?_).trans
    (BlockWork.foldl (fun u j => blockWork_pulseIf (by decide) (lineClipped x level s j) u) _ _)
  simp only [getElem_changeAll]
  split
  · exact bump_le _
  · exact h

theorem blockWork_reverbClear (s : State) : BlockWork s (reverbClear s) := blockWork_reverb s _ fun _ h => h

theorem blockWork_reverbWork (x : Vector Sample 24) (level : Nat) (s : State) : BlockWork s (reverbWork x level s) := by
  unfold reverbWork
  split
  · exact blockWork_reverbClear s
  · exact blockWork_reverbCompute x level s

theorem blockWork_outputsWork (q : Vector Sample 32) (core s : State) : BlockWork s (outputsWork q core s) := by
  refine (blockWork_outputs s _ fun m h => ?_).trans
    (BlockWork.foldl (fun u m => blockWork_pulseIf (by decide) (outputClipped q core m) u) _ _)
  simp only [getElem_changeAll]
  split
  · exact bump_le _
  · exact h

/-- A change of every output that leaves its clip counter. -/
theorem blockWork_changeOutputs (s : State) {f : Fin 32 → OutputUnit → OutputUnit} (hf : ∀ m u, (f m u).clips = u.clips) :
    BlockWork s { s with outputs := changeAll s.outputs f } :=
  blockWork_outputs s _ fun m h => by simpa only [getElem_changeAll, hf] using h

theorem blockWork_blockPeaks (s : State) : BlockWork s (blockPeaks s) := blockWork_changeOutputs s fun _ _ => rfl

theorem blockWork_outputsRamp (mute : Bool) (s : State) : BlockWork s (outputsRamp mute s) :=
  blockWork_changeOutputs s fun _ _ => rfl

theorem blockWork_outputsLockLoss (s : State) : BlockWork s (outputsLockLoss s) := blockWork_changeOutputs s fun _ _ => rfl

theorem blockWork_outputsAndBackoff (s : State) (v : Vector OutputUnit 32) (b : Backoff)
    (h : ∀ m : Fin 32, s.outputs[m].clips ≤ Config.counterTop → v[m].clips ≤ Config.counterTop) :
    BlockWork s { s with outputs := v, backoff := b } :=
  { clips := h }

theorem blockWork_outputsSwap (s : State) : BlockWork s (outputsSwap s) :=
  blockWork_outputsAndBackoff s _ _ fun m h => by simpa only [getElem_changeAll] using h

theorem blockWork_outputsInstall (s : State) : BlockWork s (outputsInstall s) :=
  blockWork_outputsAndBackoff s _ _ fun m h => by simpa only [getElem_changeAll] using h

theorem blockWork_profileWritten (n : Fin 4) (s : State) : BlockWork s (profileWritten n s) :=
  blockWork_changeOutputs s fun m u => by split <;> rfl

theorem blockWork_resetGuards (s : State) : BlockWork s (resetGuards s) := blockWork_changeOutputs s fun _ _ => rfl

theorem blockWork_setGuard (m : Fin 32) (g : Guard) (s : State) : BlockWork s (setGuard m g s) := by
  refine blockWork_outputs s _ fun k h => ?_
  simp only [getElem_changeAt]
  split
  · next hk => exact hk ▸ h
  · exact h

theorem blockWork_detectAt (p : ProfileRec) (m : Fin 32) (s : State) : BlockWork s (detectAt p m s) := by
  have hg := blockWork_setGuard m (detected p s.outputs[m].guard) s
  unfold detectAt
  dsimp only
  split
  · exact hg.trans (BlockWork.trans {} (blockWork_pulse (by decide) _))
  · exact hg

theorem blockWork_evaluateAt (s : State) (m : Fin 32) : BlockWork s (evaluateAt s m) := by
  unfold evaluateAt
  split
  · exact .refl s
  · split
    · exact blockWork_detectAt _ m s
    · exact blockWork_setGuard m _ s

theorem blockWork_evaluateGuards (s : State) : BlockWork s (evaluateGuards s) :=
  BlockWork.foldl blockWork_evaluateAt (entries 32) s

theorem blockWork_backoffStep (s : State) : BlockWork s (backoffStep s) := by
  rw [backoffStep_frame]
  exact {}

/-! #### Generator and capture -/

theorem blockWork_captureDone (s : State) : BlockWork s (captureDone s) :=
  BlockWork.trans {} (blockWork_pulse (by decide) { s with capture := { s.capture with state := .done } })

theorem blockWork_captureEnd (s : State) : BlockWork s (captureEnd s) := by
  unfold captureEnd
  split
  · exact blockWork_captureDone s
  · exact .refl s

theorem blockWork_captureStart (slip : Bool) (s : State) : BlockWork s (captureStart slip s) := by
  rw [captureStart_frame]
  exact {}

theorem blockWork_captureWork (v : Sample) (s : State) : BlockWork s (captureWork v s) := by
  rw [captureWork_frame]
  exact {}

theorem blockWork_captureLockLoss (s : State) : BlockWork s (captureLockLoss s) := by
  rw [captureLockLoss_frame]
  exact {}

theorem blockWork_burstOver (s : State) : BlockWork s (burstBegin (burstEnd s)) := by
  rw [burstBegin_frame, burstEnd_frame]
  exact {}

/-! #### The Scene Engine -/

theorem blockWork_setEngine (e : Engine) (s : State) : BlockWork s (setEngine e s) := {}

theorem blockWork_execute (mode : CommitMode) (s : State) : BlockWork s (execute mode s) := by
  unfold execute
  split
  · exact BlockWork.trans (t := swapBanks s) {} ((blockWork_outputsSwap _).trans
      ((blockWork_setEngine _ _).trans (blockWork_pulse (by decide) _)))
  · exact {}

theorem blockWork_executeScheduled (s : State) : BlockWork s (executeScheduled s) := by
  unfold executeScheduled
  split
  · exact blockWork_execute _ s
  · exact .refl s

theorem blockWork_commitStart (slip : Bool) (s : State) : BlockWork s (commitStart slip s) := by
  unfold commitStart
  split
  · exact blockWork_executeScheduled s
  · exact .refl s

theorem blockWork_begunCommit (mode : CommitMode) (s : State) : BlockWork s (execute mode (beginCommit mode s)) :=
  BlockWork.trans (t := beginCommit mode s) {} (blockWork_execute mode _)

theorem blockWork_startUpCommit (s : State) : BlockWork s (startUpCommit s) := by
  unfold startUpCommit
  split
  · exact blockWork_pulse (by decide) s
  · exact blockWork_begunCommit .auto s

theorem blockWork_cancelCommit (s : State) : BlockWork s (cancelCommit s) :=
  BlockWork.trans (t := steadyEngine s) {} (blockWork_pulse (by decide) _)

theorem blockWork_engineLockLoss (s : State) : BlockWork s (engineLockLoss s) := by
  unfold engineLockLoss
  split
  · exact blockWork_cancelCommit s
  · exact .refl s

theorem blockWork_appendRecomputes (n : BankName) (l : List (Fin 16)) (s : State) :
    BlockWork s (l.foldl (fun v j => appendRecompute v n j) s) :=
  BlockWork.foldl (fun v j => blockWork_appendRecompute v n j) l s

theorem blockWork_copyBank (s : State) : BlockWork s (copyBank s) :=
  (blockWork_dropRecomputes s _).trans ((blockWork_setBank _ _ _).trans (blockWork_appendRecomputes _ _ _))

theorem blockWork_fadeInEnd (s : State) : BlockWork s (fadeInEnd s) :=
  BlockWork.trans {} (blockWork_pulseIf (by decide) _ (setEngine _ s))

theorem blockWork_engineBoundary (mute : Bool) (s : State) : BlockWork s (engineBoundary mute s) := by
  unfold engineBoundary
  split
  · exact {}
  · split
    · exact blockWork_fadeInEnd s
    · exact .refl s

theorem blockWork_reverbInstall (s : State) : BlockWork s (reverbInstall s) := blockWork_reverb s _ fun _ h => h

theorem blockWork_endClearing (s : State) : BlockWork s (endClearing s) := blockWork_reverb s _ fun _ h => h

theorem blockWork_install (s : State) : BlockWork s (install s) := by
  have ho : ∀ e t, BlockWork t (setEngine e (outputsInstall (reverbInstall (inputsInstall t)))) := fun e t =>
    (blockWork_inputsInstall t).trans ((blockWork_reverbInstall _).trans
      ((blockWork_outputsInstall _).trans (blockWork_setEngine _ _)))
  unfold install
  dsimp only
  split
  · exact BlockWork.trans (t := swapBanks s) {} (ho _ _)
  · exact ho _ _
  · exact ho _ _

theorem blockWork_clearingComplete (s : State) : BlockWork s (clearingComplete s) := by
  unfold clearingComplete
  dsimp only
  split
  · exact (blockWork_endClearing s).trans (blockWork_install _)
  · exact blockWork_endClearing s

/-! #### The Scene Store -/

theorem blockWork_beginRecall (n : Fin 16) (s : State) : BlockWork s (beginRecall n s) := by
  unfold beginRecall
  exact (blockWork_dropRecomputes s (pendingName s)).trans {}

theorem blockWork_store (s : State) (st : Store) : BlockWork s { s with store := st } := {}

/-- The end of an operation: what it leaves in the store, its report, and the store idle (R160, R161, R165). -/
theorem blockWork_storeEnd (s : State) (st : Store) {k : NoticeKind} (hk : k ∉ levelKinds) :
    BlockWork s (storeIdle (pulse k { s with store := st })) :=
  (blockWork_store s st).trans ((blockWork_pulse hk _).trans (blockWork_store _ _))

theorem blockWork_eraseEnd (ok : Bool) (n : Fin 16) (s : State) : BlockWork s (eraseEnd ok n s) := by
  unfold eraseEnd
  split
  · exact blockWork_storeEnd s _ (k := .storeDone) (by decide)
  · exact blockWork_storeEnd s _ (k := .storeFailed) (by decide)

theorem blockWork_writeEnd (ok : Bool) (n : Fin 16) (s : State) : BlockWork s (writeEnd ok n s) := by
  unfold writeEnd
  split
  · exact blockWork_storeEnd s _ (k := .storeDone) (by decide)
  · exact blockWork_storeEnd s _ (k := .storeFailed) (by decide)

theorem blockWork_rewriteEnd (ok : Bool) (r : StartRecord) (s : State) : BlockWork s (rewriteEnd ok r s) := by
  unfold rewriteEnd
  split
  · exact blockWork_storeEnd s _ (k := .storeDone) (by decide)
  · exact blockWork_storeEnd s _ (k := .storeFailed) (by decide)

theorem blockWork_replacePending (n : Fin 16) (s : State) : BlockWork s (replacePending n s) :=
  (blockWork_setBank s _ _).trans (blockWork_appendRecomputes _ _ _)

theorem blockWork_recallReleased (s : State) : BlockWork s (recallReleased s) := by
  rw [recallReleased_frame]
  exact {}

theorem blockWork_recallEnd (n : Fin 16) (s : State) : BlockWork s (recallEnd n s) := by
  have hr : BlockWork s (recallReleased (pulse .storeDone (replacePending n s))) :=
    (blockWork_replacePending n s).trans ((blockWork_pulse (by decide) _).trans (blockWork_recallReleased _))
  unfold recallEnd
  dsimp only
  split
  · exact hr.trans (blockWork_startUpCommit _)
  · exact hr

theorem blockWork_operationEnd (s : State) : BlockWork s (operationEnd s) := by
  unfold operationEnd
  dsimp only
  split
  · exact blockWork_eraseEnd _ _ s
  · exact blockWork_writeEnd _ _ s
  · split
    · exact blockWork_recallEnd _ s
    · exact .refl s
  · split
    · exact blockWork_recallEnd _ s
    · exact .refl s
  · split
    · exact blockWork_rewriteEnd _ _ s
    · exact {}
  · exact .refl s

theorem blockWork_endOperation (s : State) : BlockWork s (endOperation s) :=
  BlockWork.trans (t := { s with draws := s.draws + 1, store := { s.store with count := 0 } }) {} (blockWork_operationEnd _)

theorem blockWork_storeBoundary (s : State) : BlockWork s (storeBoundary s) := by
  have hc : BlockWork s (countDown s) := {}
  unfold storeBoundary
  dsimp only
  split
  · exact .refl s
  · split
    · exact hc.trans (blockWork_operationEnd _)
    · exact hc

theorem blockWork_releaseHeldRecall (s : State) : BlockWork s (releaseHeldRecall s) := by
  unfold releaseHeldRecall
  split
  · exact BlockWork.trans (t := { s with marks := { s.marks with store := true } }) {} (blockWork_operationEnd _)
  · exact .refl s

theorem blockWork_clearingEnd (s : State) : BlockWork s (clearingEnd s) := by
  unfold clearingEnd clearingOff
  split
  · exact (blockWork_clearingComplete s).trans (blockWork_releaseHeldRecall _)
  · exact blockWork_releaseHeldRecall s

theorem blockWork_powerOnScan (s : State) : BlockWork s (powerOnScan s) := by
  unfold powerOnScan
  exact (blockWork_store s _).trans (blockWork_pulseIf (by decide) _ _)

theorem blockWork_startUpRecall (s : State) : BlockWork s (startUpRecall s) := by
  unfold startUpRecall
  split
  · split
    · exact (blockWork_beginRecall _ s).trans (blockWork_store _ _)
    · exact .refl s
  · exact .refl s

/-! #### The tasks of a frame period -/

theorem blockWork_outputsBoundary (mute : Bool) (s : State) : BlockWork s (outputsBoundary mute s) := by
  have hb : BlockWork s (withEdges backoffStep (blockPeaks s)) :=
    (blockWork_blockPeaks s).trans (blockWork_backoffStep _).withEdges
  have hg : BlockWork s (withEdges evaluateGuards (withEdges backoffStep (blockPeaks s))) :=
    hb.trans (blockWork_evaluateGuards _).withEdges
  exact hg.trans ((blockWork_outputsRamp mute _).trans (blockWork_engineBoundary mute _).withEdges)

theorem blockWork_inputsAndCore (env : Env) (boundary : Bool) (s : State) : BlockWork s (inputsAndCore env boundary s) := by
  unfold inputsAndCore
  split
  · next hfirst =>
    rw [samplingState, if_pos hfirst]
    exact (blockWork_reverbClear s).trans ((blockWork_clearingEnd _).trans (blockWork_inputsWork env boundary _))
  · exact (blockWork_inputsWork env boundary s).trans (blockWork_reverbWork _ _ _)

theorem blockWork_relockEdge (env : Env) (s : State) : BlockWork s (relockEdge env s) := by
  unfold relockEdge
  split
  · exact blockWork_report (k := .ringLocked) (e := .rise) (iff_of_false nofun (by decide)) s
  · exact .refl s

end Sys2Proof.Machine
end

section
/-! The ring, the two queues and the counters stay legal: what each request, each task of a frame period and each command
makes of them (O4, O9). -/

namespace Sys2Proof.Machine

/-! ### The counters, by the blocks that hold them -/

/-- The three counters of the ring are in range (R36). -/
def RingCountersLegal (r : Ring) : Prop :=
  r.badFrames ≤ Config.counterTop ∧ r.flaggedFrames ≤ Config.counterTop ∧ r.lockLosses ≤ Config.counterTop

theorem countersLegal_iff (s : State) : CountersLegal s ↔ RingCountersLegal s.ring ∧ s.badCells ≤ Config.counterTop ∧
    (∀ i : Fin 24, s.inputs[i].invalid ≤ Config.counterTop) ∧
    (∀ j : Fin 16, s.reverb.lineClips[j] ≤ Config.counterTop) ∧
    ∀ m : Fin 32, s.outputs[m].clips ≤ Config.counterTop := by
  constructor
  · intro h
    refine ⟨⟨h 0 (by decide), h 1 (by decide), h 2 (by decide)⟩, h 3 (by decide), fun i => ?_, fun j => ?_, fun m => ?_⟩
    · have hi := h (i.val + 4) (by omega)
      simpa [counterValue] using hi
    · have hj := h (j.val + 24 + 4) (by omega)
      simpa [counterValue, j.isLt] using hj
    · have hm := h (m.val + 40 + 4) (by omega)
      have h1 : ¬ m.val + 40 < 24 := by omega
      have h2 : ¬ m.val + 40 - 24 < 16 := by omega
      simpa [counterValue, h1, h2, m.isLt] using hm
  · rintro ⟨⟨h0, h1, h2⟩, h3, hi, hj, hm⟩ i _
    unfold counterValue
    split
    · exact h0
    · exact h1
    · exact h2
    · exact h3
    · split
      · next hi' => exact hi ⟨_, hi'⟩
      · split
        · next hj' => exact hj ⟨_, hj'⟩
        · split
          · next hm' => exact hm ⟨_, hm'⟩
          · exact Nat.zero_le _

/-! ### What keeps them -/

/-- The way from `s` to `t` keeps the ring, the two queues and the counters legal. -/
structure KeepsLegal (s t : State) : Prop where
  ring       : RingLegal s.ring → RingLegal t.ring := by exact id
  recomputes : RecomputesLegal s.decay → RecomputesLegal t.decay := by exact id
  notices    : NoticesLegal s.notices.queue → NoticesLegal t.notices.queue := by exact id
  counters   : CountersLegal s → CountersLegal t := by exact id

theorem KeepsLegal.refl (s : State) : KeepsLegal s s := {}

theorem KeepsLegal.trans {s t u : State} (h : KeepsLegal s t) (g : KeepsLegal t u) : KeepsLegal s u :=
  ⟨g.ring ∘ h.ring, g.recomputes ∘ h.recomputes, g.notices ∘ h.notices, g.counters ∘ h.counters⟩

theorem BlockWork.keeps {s t : State} (h : BlockWork s t) : KeepsLegal s t where
  ring hr := h.ring ▸ hr
  recomputes := h.recomputes
  notices := h.reports.noticesLegal
  counters hc := by
    obtain ⟨hr, hb, hi, hj, hm⟩ := (countersLegal_iff s).1 hc
    exact (countersLegal_iff t).2 ⟨h.ring ▸ hr, h.badCells ▸ hb, fun i => h.invalid i (hi i), fun j => h.lineClips j (hj j),
      fun m => h.clips m (hm m)⟩

/-- A change of ring, node record, count of malformed cells, inputs, core and outputs, the queues aside. -/
theorem keepsLegal_of_counters {s t : State} (hr : RingLegal s.ring → RingLegal t.ring) (hd : t.decay = s.decay)
    (hn : t.notices.queue = s.notices.queue) (hc : RingCountersLegal s.ring → RingCountersLegal t.ring)
    (hb : s.badCells ≤ Config.counterTop → t.badCells ≤ Config.counterTop)
    (hi : ∀ i : Fin 24, s.inputs[i].invalid ≤ Config.counterTop → t.inputs[i].invalid ≤ Config.counterTop)
    (hj : ∀ j : Fin 16, s.reverb.lineClips[j] ≤ Config.counterTop → t.reverb.lineClips[j] ≤ Config.counterTop)
    (hm : ∀ m : Fin 32, s.outputs[m].clips ≤ Config.counterTop → t.outputs[m].clips ≤ Config.counterTop) :
    KeepsLegal s t where
  ring := hr
  recomputes h := hd ▸ h
  notices h := hn ▸ h
  counters h := by
    obtain ⟨h1, h2, h3, h4, h5⟩ := (countersLegal_iff s).1 h
    exact (countersLegal_iff t).2 ⟨hc h1, hb h2, fun i => hi i (h3 i), fun j => hj j (h4 j), fun m => hm m (h5 m)⟩

/-- A change of the ring alone. -/
theorem keepsLegal_setRing {s : State} {r : Ring} (hr : RingLegal s.ring → RingLegal r)
    (hc : RingCountersLegal s.ring → RingCountersLegal r) : KeepsLegal s (setRing r s) :=
  keepsLegal_of_counters hr rfl rfl hc id (fun _ h => h) (fun _ h => h) (fun _ h => h)

/-! ### The ring's counters, which requests clear -/

/-- Ring `q` is ring `r` but for its three counters. -/
def RingCounted (r q : Ring) : Prop :=
  q = { r with badFrames := q.badFrames, flaggedFrames := q.flaggedFrames, lockLosses := q.lockLosses }

theorem RingCounted.refl (r : Ring) : RingCounted r r := rfl

theorem RingCounted.trans {r q p : Ring} (h : RingCounted r q) (g : RingCounted q p) : RingCounted r p := by
  unfold RingCounted at *
  rw [g, h]

theorem RingCounted.legal {r q : Ring} (h : RingCounted r q) (hr : RingLegal r) : RingLegal q := by
  unfold RingCounted at h
  rw [h]
  exact ⟨hr.number, hr.goodRun, hr.acqRun, hr.resting, hr.unlocked⟩

/-! ### Requests -/

/-- What a frame's cell makes of the books: the ring keeps all but its counters, and all stays legal. -/
structure CellWork (s t : State) : Prop where
  ring  : RingCounted s.ring t.ring
  keeps : KeepsLegal s t

/-- A request's operation puts nothing on the ring by itself. -/
structure RequestWork (s t : State) : Prop extends CellWork s t where
  out : t.out = s.out := by rfl

theorem RequestWork.refl (s : State) : RequestWork s s := ⟨⟨rfl, .refl s⟩, rfl⟩

theorem RequestWork.trans {s t u : State} (h : RequestWork s t) (g : RequestWork t u) : RequestWork s u :=
  ⟨⟨h.ring.trans g.ring, h.keeps.trans g.keeps⟩, g.out.trans h.out⟩

theorem BlockWork.request {s t : State} (h : BlockWork s t) : RequestWork s t := ⟨⟨h.ring ▸ rfl, h.keeps⟩, h.out⟩

theorem blockWork_lineAfter (n : BankName) (j : Fin 16) (old r : LineRec) (s : State) :
    BlockWork s (lineAfter n j old r s) := by
  unfold lineAfter
  split
  · exact blockWork_appendRecompute s n j
  · exact .refl s

theorem blockWork_outputAfter (live : Bool) (m : Fin 32) (old r : OutputRec) (s : State) :
    BlockWork s (outputAfter live m old r s) := by
  unfold outputAfter
  split
  · exact blockWork_setGuard m _ s
  · exact .refl s

theorem blockWork_profileAfter (live : Bool) (p : Fin 4) (old r : ProfileRec) (s : State) :
    BlockWork s (profileAfter live p old r s) := by
  unfold profileAfter
  split
  · exact blockWork_profileWritten p s
  · exact .refl s

theorem blockWork_globalsAfter (live : Bool) (s : State) : BlockWork s (globalsAfter live s) := by
  cases live <;> exact {}

theorem blockWork_writeEntry {α : Type} {k : Nat} {get : Bank → Vector α k} {put : Bank → Vector α k → Bank} {live : Bool}
    {n : BankName} {r : Treated α} {equal : α → α → Bool} {merge : α → α → α} {after : Fin k → α → α → State → State}
    {i : Nat} {s t : State} {clamped : Bool} (ha : ∀ j old new u, BlockWork u (after j old new u))
    (hw : writeEntry get put live n r equal merge after i s = .ok (t, clamped)) : BlockWork s t := by
  unfold writeEntry at hw
  split at hw
  · cases hw
  · split at hw
    · dsimp only at hw
      split at hw
      · cases hw
      · obtain ⟨rfl, -⟩ := Prod.mk.inj (Except.ok.inj hw)
        exact (blockWork_setBank s n _).trans (ha _ _ _ _)
    · cases hw

theorem blockWork_writeBank {table : BankTable} {v : View} {i : Nat} {ws : List Word} {s t : State} {clamped : Bool}
    (hw : writeBank table v i ws s = .ok (t, clamped)) : BlockWork s t := by
  unfold writeBank at hw
  cases table with
  | inputs => exact blockWork_writeEntry (fun _ _ _ u => .refl u) hw
  | injections => exact blockWork_writeEntry (fun _ _ _ u => .refl u) hw
  | lines => exact blockWork_writeEntry (fun _ _ _ u => blockWork_lineAfter _ _ _ _ u) hw
  | taps => exact blockWork_writeEntry (fun _ _ _ u => .refl u) hw
  | outputs => exact blockWork_writeEntry (fun _ _ _ u => blockWork_outputAfter _ _ _ _ u) hw
  | profiles => exact blockWork_writeEntry (fun _ _ _ u => blockWork_profileAfter _ _ _ _ u) hw
  | globals =>
    simp only [writeGlobals] at hw
    split at hw
    · cases hw
    · split at hw
      · cases hw
      · obtain ⟨rfl, -⟩ := Prod.mk.inj (Except.ok.inj hw)
        exact (blockWork_setBank s _ _).trans (blockWork_globalsAfter _ _)

theorem requestWork_node (s : State) (r : NodeRecord) : RequestWork s { s with node := r } := ⟨⟨rfl, {}⟩, rfl⟩

theorem requestWork_writeTable {p : Pointer} {ws : List Word} {s t : State} {clamped : Bool}
    (hw : writeTable p ws s = .ok (t, clamped)) : RequestWork s t := by
  unfold writeTable at hw
  split at hw
  · exact (blockWork_writeBank hw).request
  · unfold writeAmendment at hw
    split at hw
    · cases hw
    · obtain ⟨rfl, -⟩ := Prod.mk.inj (Except.ok.inj hw)
      exact (blockWork_store s _).request
  · obtain ⟨rfl, -⟩ := Prod.mk.inj (Except.ok.inj hw)
    exact requestWork_node s _
  all_goals cases hw

theorem requestWork_pointer (s : State) (p : Pointer) : RequestWork s { s with pointer := p } := ⟨⟨rfl, {}⟩, rfl⟩

theorem requestWork_putRecords (rs : List (List Word)) (done : Nat) (clamped : Bool) (s : State) :
    RequestWork s (putRecords rs done clamped s).1 := by
  induction rs generalizing done clamped s with
  | nil => exact .refl s
  | cons r rs ih =>
    simp only [putRecords]
    split
    · exact .refl s
    · split
      · exact .refl s
      · next hw => exact (requestWork_writeTable hw).trans ((requestWork_pointer _ _).trans (ih _ _ _))

/-- An entry of a table brought to 0 leaves every entry in range. -/
theorem changeEntry_le {α : Type} {n : Nat} {v : α → Nat} {f : α → α} (hf : ∀ a, v (f a) = 0) (t : Vector α n) (i : Nat)
    (j : Fin n) (h : v t[j] ≤ Config.counterTop) : v (changeEntry t i f)[j] ≤ Config.counterTop := by
  unfold changeEntry
  split
  · rw [getElem_changeAt]
    split
    · rw [hf]
      exact Nat.zero_le _
    · exact h
  · exact h

theorem requestWork_clearCounter (i : Nat) (s : State) : RequestWork s (clearCounter i s) := by
  have hring : ∀ r, RingCounted s.ring r → (RingCountersLegal s.ring → RingCountersLegal r) →
      RequestWork s { s with ring := r } := fun r hr hc => ⟨⟨hr, keepsLegal_setRing hr.legal hc⟩, rfl⟩
  unfold clearCounter
  split
  · exact hring _ rfl fun ⟨_, h2, h3⟩ => ⟨Nat.zero_le _, h2, h3⟩
  · exact hring _ rfl fun ⟨h1, _, h3⟩ => ⟨h1, Nat.zero_le _, h3⟩
  · exact hring _ rfl fun ⟨h1, h2, _⟩ => ⟨h1, h2, Nat.zero_le _⟩
  · exact ⟨⟨rfl, keepsLegal_of_counters id rfl rfl id (fun _ => Nat.zero_le _) (fun _ h => h) (fun _ h => h) fun _ h => h⟩, rfl⟩
  · split
    · exact (blockWork_inputs s _ fun j h => changeEntry_le (v := InputUnit.invalid) (fun _ => rfl) s.inputs _ j h).request
    · split
      · refine (blockWork_reverb s { s.reverb with lineClips := _ } fun j h => ?_).request
        exact changeEntry_le (v := id) (fun _ => rfl) s.reverb.lineClips _ j h
      · exact (blockWork_outputs s _ fun j h => changeEntry_le (v := OutputUnit.clips) (fun _ => rfl) s.outputs _ j h).request

theorem requestWork_readTable {p : Pointer} {s t : State} {ws : List Word} (hr : readTable p s = .ok (t, ws)) :
    RequestWork s t := by
  unfold readTable at hr
  split at hr
  case h_7 =>
    obtain ⟨rfl, -⟩ := Prod.mk.inj (Except.ok.inj hr)
    exact requestWork_clearCounter _ s
  case h_8 =>
    unfold readCapture at hr
    split at hr
    · cases hr
    · cases hr
    all_goals
      split at hr
      · obtain ⟨rfl, -⟩ := Prod.mk.inj (Except.ok.inj hr)
        exact .refl s
      · cases hr
  all_goals
    obtain ⟨rfl, -⟩ := Prod.mk.inj (Except.ok.inj hr)
    exact .refl s

theorem requestWork_takeRecords (n done : Nat) (ws : List Word) (s : State) :
    RequestWork s (takeRecords n done ws s).1 := by
  induction n generalizing done ws s with
  | zero => exact .refl s
  | succ n ih =>
    simp only [takeRecords]
    split
    · exact .refl s
    · split
      · exact .refl s
      · next hr => exact (requestWork_readTable hr).trans ((requestWork_pointer _ _).trans (ih _ _ _))

theorem requestWork_badCell (s : State) : RequestWork s (badCell s).1 := by
  have hb : RequestWork s { s with badCells := bump s.badCells } :=
    ⟨⟨rfl, keepsLegal_of_counters id rfl rfl id (fun _ => bump_le _) (fun _ h => h) (fun _ h => h) fun _ h => h⟩, rfl⟩
  exact hb.trans (blockWork_pulse (by decide) _).request

theorem blockWork_resetCommit (s : State) : BlockWork s (resetCommit s) := by
  unfold resetCommit
  split
  · exact blockWork_pulse (by decide) s
  · exact blockWork_pulse (by decide) s
  · exact blockWork_pulse (by decide) s
  · exact blockWork_setEngine _ s
  · exact .refl s

theorem blockWork_startClearing (s : State) : BlockWork s (startClearing s) := {}

theorem blockWork_engineWarmReset (s : State) : BlockWork s (engineWarmReset s) := by
  refine (blockWork_resetCommit s).trans ?_
  unfold engineWarmReset selfCut
  dsimp only
  split
  · exact (blockWork_setEngine _ _).trans (blockWork_startClearing _)
  · exact blockWork_setEngine _ _

/-- The Notice Unit and the counters cleared, and the blocks beside the engine reset (R191, R197). -/
theorem requestWork_blocksReset (s : State) :
    RequestWork s (outputsWarmReset (reverbWarmReset (inputsWarmReset (handlerWarmReset (ringWarmReset (clearNotices s)))))) := by
  have hring : ∀ u, RequestWork u (ringWarmReset u) := fun u =>
    have hr : RingCounted u.ring { u.ring with badFrames := 0, flaggedFrames := 0, lockLosses := 0 } := rfl
    ⟨⟨hr, keepsLegal_setRing hr.legal fun _ => ⟨Nat.zero_le _, Nat.zero_le _, Nat.zero_le _⟩⟩, rfl⟩
  have hnotices : RequestWork s (clearNotices s) :=
    ⟨⟨rfl, { notices := fun _ => ⟨List.nodup_nil, fun _ h => nomatch h⟩ }⟩, rfl⟩
  have hhandler : ∀ u, RequestWork u (handlerWarmReset u) := fun u =>
    ⟨⟨rfl, keepsLegal_of_counters id rfl rfl id (fun _ => Nat.zero_le _) (fun _ h => h) (fun _ h => h) fun _ h => h⟩, rfl⟩
  have hinputs : ∀ u, BlockWork u (inputsWarmReset u) := fun u => blockWork_inputs u _ fun i _ => by
    rw [getElem_changeAll]
    exact Nat.zero_le _
  have hreverb : ∀ u, BlockWork u (reverbWarmReset u) := fun u => blockWork_reverb u _ fun j _ => by
    simp only [Fin.getElem_fin, Vector.getElem_replicate]
    exact Nat.zero_le _
  have houtputs : ∀ u, BlockWork u (outputsWarmReset u) := fun u => blockWork_outputsAndBackoff u _ _ fun m _ => by
    simp only [Fin.getElem_fin, Vector.getElem_replicate]
    exact Nat.zero_le _
  exact hnotices.trans ((hring _).trans ((hhandler _).trans
    ((hinputs _).trans ((hreverb _).trans (houtputs _))).request))

theorem requestWork_warmReset (s : State) : RequestWork s (warmReset s) := by
  have hg : ∀ u, BlockWork u (captureWarmReset (generatorWarmReset u)) := fun u => {}
  exact (requestWork_blocksReset s).trans ((hg _).trans (blockWork_engineWarmReset _)).request

theorem blockWork_rewrite (sector : Option (Fin 16)) (r : StartRecord) (s : State) : BlockWork s (rewrite sector r s).1 := by
  unfold rewrite
  split
  · exact .refl s
  · split
    · exact .refl s
    · exact {}

theorem blockWork_accept (b : Burst) (s : State) : BlockWork s (accept b s) := by
  rw [accept_frame]
  exact {}

theorem requestWork_requestOp (r : Request) (s : State) : RequestWork s (requestOp r s).1 := by
  cases r with
  | aim view table index step =>
    simp only [requestOp, aim]
    split
    · exact requestWork_pointer s _
    · exact .refl s
  | put count payload =>
    simp only [requestOp, put]
    split
    · exact requestWork_badCell s
    · split
      · exact .refl s
      · exact requestWork_putRecords _ _ _ s
  | take count =>
    simp only [requestOp, take]
    split
    · exact requestWork_badCell s
    · exact requestWork_takeRecords _ _ _ s
  | commit mode timing =>
    simp only [requestOp, commit]
    split
    · exact .refl s
    · split
      · exact .refl s
      · split
        · exact (blockWork_begunCommit _ s).request
        · split
          · exact (blockWork_setEngine _ s).request
          · exact .refl s
  | cancel =>
    simp only [requestOp, cancel]
    split
    · exact .refl s
    · exact (blockWork_cancelCommit s).request
    · exact (blockWork_cancelCommit s).request
    all_goals exact .refl s
  | copy =>
    simp only [requestOp, copy]
    split
    · exact .refl s
    · exact (blockWork_copyBank s).request
  | recallSector n =>
    simp only [requestOp, recallSector]
    split
    · exact .refl s
    · split
      · exact .refl s
      · split
        · exact .refl s
        · split
          · exact .refl s
          · exact (blockWork_beginRecall _ s).request
  | write n =>
    simp only [requestOp, write]
    repeat' split
    all_goals exact BlockWork.request {}
  | erase n =>
    simp only [requestOp, erase]
    repeat' split
    all_goals exact BlockWork.request {}
  | protect n =>
    simp only [requestOp, protect]
    split
    · exact .refl s
    · exact (blockWork_rewrite _ _ s).request
  | unprotect n =>
    simp only [requestOp, unprotect]
    split
    · exact .refl s
    · exact (blockWork_rewrite _ _ s).request
  | setStart n =>
    simp only [requestOp, setStart]
    split
    · exact .refl s
    · exact (blockWork_rewrite _ _ s).request
  | guardReset m =>
    simp only [requestOp, guardReset]
    split
    · exact .refl s
    · exact (blockWork_resetGuards s).request
    · exact (blockWork_setGuard _ _ s).request
  | fire kind target level length =>
    simp only [requestOp, fire]
    split
    · split
      · exact .refl s
      · split
        · exact .refl s
        · exact (blockWork_accept _ s).request
    · exact .refl s
  | stopGenerator =>
    simp only [requestOp, stopGenerator]
    split
    · exact BlockWork.request {}
    · exact .refl s
  | arm kind number trigger length frame =>
    simp only [requestOp, arm]
    repeat' split
    all_goals exact BlockWork.request {}
  | stopCapture =>
    simp only [requestOp, stopCapture]
    split
    · split
      · exact .refl s
      · exact (blockWork_captureDone s).request
    · exact BlockWork.request {}
    all_goals exact .refl s
  | clearFlags mask =>
    simp only [requestOp, clearFlags]
    split
    · exact .refl s
    · exact ⟨⟨rfl, {}⟩, rfl⟩
  | resetNode => exact requestWork_warmReset s
  | wherePointer => exact .refl s
  | status => exact .refl s
  | badCell kind => exact requestWork_badCell s

theorem cellWork_handle (h : Header) (r : Request) (s : State) : CellWork s (handle h r s) := by
  unfold handle serve
  split
  · have hr := (requestWork_requestOp r s).trans (blockWork_edges s _).request
    have ho : ∀ (u : State) (o : Outgoing), KeepsLegal u { u with out := o } := fun u o => {}
    exact ⟨hr.ring, hr.keeps.trans (ho _ _)⟩
  · exact ⟨rfl, .refl s⟩

theorem cellWork_offerIdle (s : State) : CellWork s (offerIdle s) := by
  rw [offerIdle_frame, offerIdle_notices]
  refine ⟨rfl, { notices := fun h => ⟨?_, fun e he => h.entries e (List.mem_of_mem_tail he)⟩ }⟩
  dsimp only
  rw [List.map_tail]
  exact h.kinds.sublist (List.tail_sublist _)

theorem cellWork_takeCell (f : Frame) (s : State) : CellWork s (takeCell f s) := by
  unfold takeCell
  split
  · exact cellWork_handle _ _ s
  · split
    · exact cellWork_offerIdle s
    · exact ⟨rfl, .refl s⟩

/-! ### Lock loss and the frame period -/

/-- After the ring's own part a lock loss is work of the blocks alone (R29). -/
theorem blockWork_lockLost (s : State) : BlockWork (ringLockLoss s) (lockLost s) := by
  have hg : ∀ u, BlockWork u (stopBurst u) := fun u => {}
  exact (blockWork_inputsLockLoss _).trans ((blockWork_outputsLockLoss _).trans ((hg _).trans
    ((blockWork_engineLockLoss _).trans (blockWork_captureLockLoss _))))

theorem blockWork_lockLoss (s : State) : BlockWork (ringLockLoss s) (lockLoss s) :=
  (blockWork_lockLost s).trans (blockWork_edges s _)

theorem keepsLegal_ringLockLoss (s : State) : KeepsLegal s (ringLockLoss s) :=
  keepsLegal_setRing (fun h => ⟨h.number, Nat.zero_lt_succ _, Nat.zero_lt_succ _, fun _ => rfl, fun _ => ⟨rfl, rfl⟩⟩)
    fun ⟨h1, h2, _⟩ => ⟨h1, h2, bump_le _⟩

theorem keepsLegal_lockLoss (s : State) : KeepsLegal s (lockLoss s) :=
  (keepsLegal_ringLockLoss s).trans (blockWork_lockLoss s).keeps

theorem keepsLegal_signalLost (s : State) : KeepsLegal s (signalLost s) := by
  have ht : KeepsLegal s (setRing { s.ring with signal := false, gap := 0 } s) :=
    keepsLegal_setRing (fun h => ⟨h.number, h.goodRun, h.acqRun, h.resting, h.unlocked⟩) id
  unfold signalLost
  dsimp only
  split
  · exact ht.trans (keepsLegal_lockLoss _)
  · next hl =>
    refine keepsLegal_setRing (fun h => ?_) id
    have hu := h.unlocked (by simp [hl])
    exact ⟨h.number, h.goodRun, Nat.zero_lt_succ _, fun _ => rfl, fun _ => hu⟩
  · exact ht

theorem keepsLegal_handOff (sent : Vector Sample 32) (s : State) : KeepsLegal s (handOff sent s) :=
  keepsLegal_setRing (fun h => ⟨h.number, h.goodRun, h.acqRun, h.resting, h.unlocked⟩) id

/-! ### The frame period -/

theorem BlockWork.handed {s t : State} (h : BlockWork s t) (sent : Vector Sample 32) :
    BlockWork (handOff sent s) (handOff sent t) :=
  { h with
    ring := by
      show { t.ring with handFront := t.ring.handBack, handBack := sent } = { s.ring with handFront := s.ring.handBack, handBack := sent }
      rw [h.ring] }

/-- The work from `s` to `t` is of the blocks alone, but for the hand-off line, which has moved on where `on` (R31). -/
def PeriodWork (on : Bool) (s t : State) : Prop := ∃ sent, BlockWork (if on then handOff sent s else s) t

theorem BlockWork.period {s t : State} (h : BlockWork s t) : PeriodWork false s t := ⟨Vector.replicate 32 0, h⟩

theorem PeriodWork.before {on : Bool} {s t u : State} (h : BlockWork s t) (g : PeriodWork on t u) : PeriodWork on s u := by
  obtain ⟨sent, g⟩ := g
  cases on with
  | false => exact ⟨sent, h.trans g⟩
  | true => exact ⟨sent, (h.handed sent).trans g⟩

theorem PeriodWork.still {s t : State} (h : PeriodWork false s t) : BlockWork s t := h.choose_spec

theorem PeriodWork.keeps {on : Bool} {s t : State} (h : PeriodWork on s t) : KeepsLegal s t := by
  obtain ⟨sent, h⟩ := h
  cases on with
  | false => exact h.keeps
  | true => exact (keepsLegal_handOff sent s).trans h.keeps

/-- The per-sample work moves the hand-off line on once; all else of it is the blocks'. -/
theorem periodWork_sampleWork (env : Env) (boundary : Bool) (s : State) : PeriodWork true s (sampleWork env boundary s) := by
  have hg : ∀ u, BlockWork u (generatorWork u) := fun u => {}
  have hq : ∀ q u, BlockWork u (quietWork q u) := fun q u => {}
  have hm : ∀ (u : State) (m : Marks), BlockWork u { u with marks := m } := fun u m => {}
  have core : BlockWork s (outputsWork (generatorSamples s.gen) s (generatorWork (inputsAndCore env boundary s))) :=
    (blockWork_inputsAndCore env boundary s).trans ((hg _).trans (blockWork_outputsWork _ s _))
  exact ⟨Vector.ofFn (sentSample (generatorSamples s.gen) s), (core.handed _).trans
    ((blockWork_captureWork _ _).trans ((hq _ _).trans (hm _ _)))⟩

/-- Every task but the per-sample work and the frame's event is work of the blocks alone. -/
theorem blockWork_runTask (env : Env) (boundary : Bool) {k : Task} (hw : k ≠ .work) (he : k ≠ .event) (s : State) :
    BlockWork s (runTask env boundary k s) := by
  cases k with
  | relockEdge => exact blockWork_relockEdge env s
  | commitStart => exact (blockWork_commitStart env.slip s).withEdges
  | captureStart => exact blockWork_captureStart env.slip s
  | decay => exact blockWork_decayBoundary s
  | ramps => exact (blockWork_inputsRamp s).trans (blockWork_reverb _ _ fun _ h => h)
  | outputs => exact blockWork_outputsBoundary _ s
  | store => exact (blockWork_storeBoundary s).withEdges
  | work => exact absurd rfl hw
  | burstEnd => exact blockWork_burstOver s
  | captureEnd => exact blockWork_captureEnd s
  | clearingEnd => exact (blockWork_clearingEnd s).withEdges
  | missingEdge => exact blockWork_missingEdge s
  | event => exact absurd rfl he

/-- Tasks among which the frame's event is not, and the per-sample work once at most. -/
theorem periodWork_runTasks (env : Env) (boundary : Bool) (ts : List Task) (he : .event ∉ ts) (hw : ts.count .work ≤ 1)
    (s : State) : PeriodWork (decide (.work ∈ ts)) s (runTasks env boundary ts s) := by
  induction ts generalizing s with
  | nil => exact (BlockWork.refl s).period
  | cons k ts ih =>
    obtain ⟨hk, hts⟩ := not_or.1 (mt List.mem_cons.2 he)
    by_cases hkw : k = .work
    · subst hkw
      rw [List.count_cons_self] at hw
      have hz : ts.count .work = 0 := Nat.le_zero.1 (Nat.le_of_succ_le_succ hw)
      have hn : Task.work ∉ ts := List.count_eq_zero.1 hz
      obtain ⟨sent, h⟩ := periodWork_sampleWork env boundary s
      have hrest := ih hts (hz ▸ Nat.zero_le 1) (runTask env boundary .work s)
      rw [decide_eq_false hn] at hrest
      rw [decide_eq_true List.mem_cons_self]
      exact ⟨sent, (h.trans (blockWork_edges s _)).trans hrest.still⟩
    · have hc : (k :: ts).count .work = ts.count .work := List.count_cons_of_ne hkw
      have hm : decide (Task.work ∈ k :: ts) = decide (Task.work ∈ ts) := by
        simp [List.mem_cons, Ne.symm hkw]
      rw [hm]
      exact PeriodWork.before (blockWork_runTask env boundary hkw (Ne.symm hk) s) (ih hts (hc ▸ hw) _)

theorem perm_insertTask (k : Task) (n : Nat) (ts : List Task) : (insertTask k n ts).Perm (k :: ts) := by
  refine List.perm_middle.trans ?_
  rw [List.take_append_drop]

theorem boundaryOrder_count (n : Nat) : (boundaryOrder n).count .work = 0 ∧ (boundaryOrder n).count .event = 0 := by
  unfold boundaryOrder
  split <;> exact ⟨rfl, rfl⟩

/-- Every plan stands around its event, with the per-sample work once on one side of it (log 2). -/
theorem plan_around_event (boundary resets : Bool) (n e : Nat) : ∃ before after, plan boundary resets n e =
    before ++ .event :: after ∧ .event ∉ before ∧ .event ∉ after ∧
      before.count .work + after.count .work = 1 := by
  have hs : (starts n).count .work = 0 ∧ (starts n).count .event = 0 := by
    unfold starts
    split <;> exact ⟨rfl, rfl⟩
  have hm : (middle boundary n).count .work = 1 ∧ (middle boundary n).count .event = 0 := by
    obtain ⟨h1, h2⟩ := boundaryOrder_count (n / 5 % 6)
    unfold middle
    split
    · rw [(perm_insertTask _ _ _).count_eq, (perm_insertTask _ _ _).count_eq]
      simp [List.count_append, h1, h2]
    · exact ⟨rfl, rfl⟩
  unfold plan
  dsimp only
  generalize hts : Task.relockEdge :: starts n ++ middle boundary n ++ [.burstEnd, .captureEnd, .clearingEnd, .missingEdge] = ts
  have hc : ts.count .work = 1 ∧ ts.count .event = 0 := by
    rw [← hts]
    simp [List.count_append, hs, hm]
  generalize e % _ = j
  have hj := List.take_append_drop j ts
  rw [← hj, List.count_append, List.count_append] at hc
  obtain ⟨hw, hv⟩ := hc
  exact ⟨ts.take j, ts.drop j, rfl, List.count_eq_zero.1 (Nat.eq_zero_of_add_eq_zero hv).1,
    List.count_eq_zero.1 (Nat.eq_zero_of_add_eq_zero hv).2, hw⟩

/-- A frame period is the blocks' work before its event, the event, and the blocks' work after it; the hand-off line
moves on once, before it or after it. -/
theorem framePeriod_around_event (env : Env) (s : State) : ∃ on t, PeriodWork on (beginPeriod s) t ∧
    PeriodWork (!on) (takeEvent env t) (framePeriod env s) := by
  unfold framePeriod
  dsimp only
  obtain ⟨before, after, hp, hb, ha, hc⟩ := plan_around_event (isBoundary (beginPeriod s)) (resetsNode env)
    (Config.taskOrder (beginPeriod s).draws) (Config.eventPoint (beginPeriod s).draws)
  rw [hp, runTasks, List.foldl_append, List.foldl_cons]
  have h1 := periodWork_runTasks env (isBoundary (beginPeriod s)) before hb (by omega) (beginPeriod s)
  have h2 := periodWork_runTasks env (isBoundary (beginPeriod s)) after ha (by omega)
    (takeEvent env (runTasks env (isBoundary (beginPeriod s)) before (beginPeriod s)))
  have hon : decide (Task.work ∈ after) = !decide (Task.work ∈ before) := by
    rw [Bool.eq_not_iff, Ne, decide_eq_decide, ← List.count_pos_iff, ← List.count_pos_iff]
    omega
  exact ⟨_, _, h1, hon ▸ h2⟩

theorem keepsLegal_takeEvent (env : Env) (s : State) : KeepsLegal s (takeEvent env s) := by
  unfold takeEvent
  split
  · exact keepsLegal_lockLoss s
  · split
    · split
      · exact (cellWork_takeCell _ s).keeps
      · exact .refl s
    · exact .refl s

theorem keepsLegal_framePeriod (env : Env) (s : State) : KeepsLegal s (framePeriod env s) := by
  obtain ⟨on, t, before, after⟩ := framePeriod_around_event env s
  have hb : KeepsLegal s (beginPeriod s) := {}
  exact hb.trans (before.keeps.trans ((keepsLegal_takeEvent env t).trans after.keeps))

/-! ### Arrivals and the oscillator -/

theorem keepsLegal_ringPeriod (c : FrameClass) (f : Frame) (env : Env) (s : State) : KeepsLegal s (ringPeriod c f env s) := by
  have hs : ∀ g u, KeepsLegal u (send g u) := fun g u => {}
  exact (keepsLegal_framePeriod env s).trans (hs _ _)

theorem ringLegal_numbered {r : Ring} (h : RingLegal r) (n : Nat) : RingLegal { r with frameNumber := nextFrame n } :=
  ⟨nextFrame_lt n, h.goodRun, h.acqRun, h.resting, h.unlocked⟩

theorem frameNumberOf_lt (f : Frame) : frameNumberOf f < Config.frameNumbers := field_lt _ _ _

theorem ringLegal_goodCounted {r : Ring} (h : RingLegal r) (hl : r.lock = .locked) : RingLegal (goodCounted r) := by
  unfold goodCounted
  split
  · exact ⟨h.number, Nat.zero_lt_succ _, h.acqRun, h.resting, fun _ => ⟨rfl, rfl⟩⟩
  · next hg => exact ⟨h.number, Nat.lt_of_not_le hg, h.acqRun, h.resting, fun hx => absurd hl hx⟩

theorem ringLegal_errorCounted {r : Ring} (h : RingLegal r) (hl : r.lock = .locked) : RingLegal (errorCounted r) :=
  ⟨h.number, Nat.zero_lt_succ _, h.acqRun, h.resting, fun hx => absurd hl hx⟩

/-- The frame period of an arrival in a ring that the arrival has left legal. -/
theorem keepsLegal_arrivalPeriod (c : FrameClass) (f : Frame) (env : Env) {s : State} {r : Ring}
    (hr : RingLegal s.ring → RingLegal r) (hc : RingCountersLegal s.ring → RingCountersLegal r) :
    KeepsLegal s (ringPeriod c f env (setRing r s)) :=
  (keepsLegal_setRing hr hc).trans (keepsLegal_ringPeriod c f env _)

theorem keepsLegal_lockedArrival (c : FrameClass) (f : Frame) {s : State} (hl : s.ring.lock = .locked) :
    KeepsLegal s (lockedArrival c f s) := by
  have herr : RingLegal s.ring → RingLegal (errorCounted s.ring) := fun h => ringLegal_errorCounted h hl
  have hgood : RingCountersLegal s.ring → RingCountersLegal (goodCounted s.ring) := by
    unfold goodCounted
    split <;> exact id
  cases c with
  | good =>
    simp only [lockedArrival, goodArrival, slipArrival]
    split
    · exact keepsLegal_arrivalPeriod _ f _ (fun h => ringLegal_numbered (ringLegal_goodCounted h hl) _) hgood
    · split
      · exact keepsLegal_arrivalPeriod _ f _ (fun h => ringLegal_numbered (herr h) _) id
      · refine keepsLegal_arrivalPeriod _ f _ (fun h => ?_) id
        have he := herr h
        exact ⟨frameNumberOf_lt f, he.goodRun, he.acqRun, he.resting, he.unlocked⟩
  | flagged => exact keepsLegal_arrivalPeriod _ f _ (fun h => ringLegal_numbered h _) id
  | bad => exact keepsLegal_arrivalPeriod _ f _ (fun h => ringLegal_numbered (herr h) _) id

theorem keepsLegal_present (c : FrameClass) (s : State) : KeepsLegal s (present c s) := by
  have ho : ∀ (u : State) (o : Outgoing), KeepsLegal u { u with out := o } := fun u o => {}
  refine KeepsLegal.trans (t := setRing { countClass c s.ring with signal := true, gap := 0 } s) (keepsLegal_setRing ?_ ?_)
    (ho _ _)
  · cases c <;> exact fun h => ⟨h.number, h.goodRun, h.acqRun, h.resting, h.unlocked⟩
  · rintro ⟨h1, h2, h3⟩
    cases c
    · exact ⟨h1, h2, h3⟩
    · exact ⟨h1, bump_le _, h3⟩
    · exact ⟨bump_le _, h2, h3⟩

/-- LOCKED entered at a number within its range (R24). -/
theorem keepsLegal_lockAt {n : Nat} (hn : n < Config.frameNumbers) (s : State) : KeepsLegal s (lockAt n s) :=
  keepsLegal_setRing (fun _ => ⟨hn, Nat.zero_lt_succ _, Nat.zero_lt_succ _, fun _ => rfl, fun _ => ⟨rfl, rfl⟩⟩) id

/-- An arrival in ACQUIRING that does not complete the run leaves it below 48 (R23). -/
theorem ringLegal_acquiringArrival {c : FrameClass} {n : Nat} {r : Ring} (hl : r.lock = .acquiring)
    (hc : completesRun c n r = false) (h : RingLegal r) : RingLegal (acquiringArrival c n r) := by
  have hu := h.unlocked (by simp [hl])
  have hto : RingLegal (toUnlocked r) := ⟨h.number, h.goodRun, Nat.zero_lt_succ _, fun _ => rfl, fun _ => hu⟩
  cases c with
  | good =>
    unfold acquiringArrival
    dsimp only
    split
    · next he =>
      simp only [completesRun, he, beq_self_eq_true, Bool.and_self, Bool.true_and, decide_eq_false_iff_not] at hc
      exact ⟨h.number, h.goodRun, Nat.lt_of_not_le hc, fun hx => absurd hl hx, fun _ => hu⟩
    · exact hto
  | flagged => exact ⟨h.number, h.goodRun, h.acqRun, h.resting, h.unlocked⟩
  | bad => exact hto

theorem keepsLegal_arrive (f : Frame) (s : State) : KeepsLegal s (arrive f s) := by
  have hs : ∀ g u, KeepsLegal u (send g u) := fun g u => {}
  have hp := keepsLegal_present (classify f) s
  have hl : (present (classify f) s).ring.lock = s.ring.lock := (countClass_keeps (classify f) s.ring).1
  unfold arrive
  dsimp only
  generalize present (classify f) s = t at *
  rw [← hl]
  split
  · next hk =>
    refine hp.trans ((keepsLegal_setRing (fun h => ?_) ?_).trans (hs _ _))
    · have hu := h.unlocked (by simp [hk])
      cases classify f
      · exact ⟨h.number, h.goodRun, by show 1 < 48; decide, fun hx => absurd rfl hx, fun _ => hu⟩
      · exact h
      · exact h
    · cases classify f <;> exact id
  · next hk =>
    split
    · exact hp.trans ((keepsLegal_lockAt (frameNumberOf_lt f) t).trans (keepsLegal_ringPeriod _ f _ _))
    · next hc =>
      refine hp.trans ((keepsLegal_setRing (ringLegal_acquiringArrival hk (by simpa using hc)) ?_).trans (hs _ _))
      cases classify f
      · unfold acquiringArrival
        dsimp only
        split <;> exact id
      · exact id
      · exact id
  · next hk => exact hp.trans (keepsLegal_lockedArrival _ f hk)

theorem keepsLegal_countGap (s : State) : KeepsLegal s (countGap s) := by
  unfold countGap
  split
  · split
    · exact keepsLegal_signalLost s
    · exact keepsLegal_setRing (fun h => ⟨h.number, h.goodRun, h.acqRun, h.resting, h.unlocked⟩) id
  · exact .refl s

theorem keepsLegal_oscillatorPeriod (s : State) : KeepsLegal s (oscillatorPeriod s) := by
  have hn : oscillatorNumber s < Config.frameNumbers := by
    unfold oscillatorNumber
    split
    · exact nextFrame_lt _
    · exact Nat.zero_lt_succ _
  exact (keepsLegal_setRing (r := { s.ring with frameNumber := oscillatorNumber s })
    (fun h => ⟨hn, h.goodRun, h.acqRun, h.resting, h.unlocked⟩) id).trans (keepsLegal_framePeriod _ _)

theorem keepsLegal_oscillator (s : State) : KeepsLegal s (oscillator s) := by
  have ho : KeepsLegal s { s with out := ⟨none, none, none⟩ } := {}
  unfold oscillator
  split
  · exact ho.trans (keepsLegal_countGap _)
  · exact ho.trans ((keepsLegal_oscillatorPeriod _).trans (keepsLegal_countGap _))

/-! ### Commands -/

theorem ringLegal_reset : RingLegal State.reset.ring :=
  ⟨Nat.zero_lt_succ _, Nat.zero_lt_succ _, Nat.zero_lt_succ _, fun _ => rfl, fun _ => ⟨rfl, rfl⟩⟩

theorem countersLegal_reset : CountersLegal State.reset := by
  refine (countersLegal_iff _).2 ⟨⟨Nat.zero_le _, Nat.zero_le _, Nat.zero_le _⟩, Nat.zero_le _, fun i => ?_, fun j => ?_,
    fun m => ?_⟩ <;>
  · simp only [State.reset, Fin.getElem_fin, Vector.getElem_replicate]
    exact Nat.zero_le _

theorem keepsLegal_powerOn (straps : Nat) (s : State) : KeepsLegal s (powerOn straps s) := by
  have still : ∀ (n : NodeRecord) (st : Store) (d : Nat) (p : List Instr), KeepsLegal State.reset { State.reset with
      node := n, store := st, notices := ⟨Vector.replicate 15 false, []⟩, draws := d, pending := p } := fun n st d p =>
    { ring := fun h => h, recomputes := fun h => h, notices := fun h => h, counters := fun _ => countersLegal_reset }
  have scanned : ∀ base, KeepsLegal State.reset base → KeepsLegal State.reset (withEdges startUpRecall (powerOnScan base)) :=
    fun base hb => hb.trans ((blockWork_powerOnScan base).trans (blockWork_startUpRecall _).withEdges).keeps
  have h : KeepsLegal State.reset (powerOn straps s) := scanned _ (still _ _ _ _)
  exact ⟨fun _ => h.ring ringLegal_reset, fun _ => h.recomputes List.nodup_nil,
    fun _ => h.notices ⟨List.nodup_nil, fun _ hx => nomatch hx⟩, fun _ => h.counters countersLegal_reset⟩

theorem keepsLegal_happens {due : Bool} {f : State → State} {s t : State} (he : happens due f s = .next t)
    (hf : due = true → KeepsLegal s (f s)) : KeepsLegal s t := by
  unfold happens at he
  split at he
  · next hd =>
    cases he
    exact (hf (Bool.and_eq_true_iff.1 hd).2).trans (blockWork_edges s (f s)).keeps
  · cases he
    exact .refl s

theorem BlockWork.happens {due : Bool} {f : State → State} {s t : State} (h : BlockWork s (f s))
    (he : happens due f s = .next t) : KeepsLegal s t := keepsLegal_happens he fun _ => h.keeps

theorem blockWork_inputDrop (i : Fin 24) (dropLimit : Nat) (s : State) :
    BlockWork s { s with inputs := changeAt s.inputs i (substituted dropLimit) } := by
  refine blockWork_inputs s _ fun j h => ?_
  rw [getElem_changeAt]
  split
  · unfold substituted
    dsimp only
    split <;> exact bump_le _
  · exact h

theorem blockWork_inputAdmission (i : Fin 24) (s : State) :
    BlockWork s { s with inputs := changeAt s.inputs i (admitted Config.silence) } := by
  refine blockWork_inputs s _ fun j h => ?_
  rw [getElem_changeAt]
  split
  · next hj => exact hj ▸ h
  · exact h

theorem blockWork_gen (g : Generator) (s : State) : BlockWork s { s with gen := g } := {}

theorem blockWork_captureBegin (s : State) : BlockWork s (captureBegin s) := {}

theorem blockWork_capture (c : Capture) (s : State) : BlockWork s { s with capture := c } := {}

theorem blockWork_clearingStart (s : State) : BlockWork s (clearingStart s) := {}

/-- Every command keeps the ring, the two queues and the counters legal. -/
theorem keepsLegal_exec {c : Instr} {s t : State} (he : exec c s = .next t) : KeepsLegal s t := by
  cases hr : c.request? with
  | some hd =>
    rw [exec_request hr] at he
    cases he
    exact (cellWork_handle _ _ s).keeps
  | none =>
    cases c
    case powerOnReset straps =>
      cases he
      exact keepsLegal_powerOn straps s
    case resetPinAssert =>
      cases he
      split
      · exact {}
      · exact .refl s
    case arrival f =>
      cases he
      split
      · exact .refl s
      · split
        · exact {}
        · exact keepsLegal_arrive f s
    case oscillatorFramePeriod =>
      cases he
      split
      · exact keepsLegal_oscillator s
      · exact .refl s
    case signalLoss =>
      cases he
      split
      · exact keepsLegal_signalLost s
      · exact .refl s
    case powerLoss =>
      cases he
      split
      · exact {}
      · exact .refl s
    case lockAcquired =>
      have hs : ∀ u : State, KeepsLegal u { u with started := true } := fun u => {}
      exact keepsLegal_happens he fun _ => (keepsLegal_lockAt (nextFrame_lt _) s).trans (hs _)
    case goodRunComplete =>
      exact keepsLegal_happens he fun _ => keepsLegal_setRing
        (fun h => ⟨h.number, Nat.zero_lt_succ _, h.acqRun, h.resting, fun _ => ⟨rfl, rfl⟩⟩) id
    case lockLoss => exact keepsLegal_happens he fun _ => (keepsLegal_ringLockLoss s).trans (blockWork_lockLost s).keeps
    case inputAdmission i => exact (blockWork_inputAdmission i s).happens he
    case inputDrop i => exact (blockWork_inputDrop i (activeBank s).inputs[i].dropLimit s).happens he
    case burstEnd => exact (blockWork_gen _ s).happens he
    case captureStart => exact (blockWork_captureBegin s).happens he
    case captureComplete v =>
      exact BlockWork.happens (f := fun t => captureDone { t with capture := recorded v t.capture })
        ((blockWork_capture (recorded v s.capture) s).trans (blockWork_captureDone _)) he
    case guardDetection m => exact (blockWork_evaluateAt s m).happens he
    case guardHoldExpiry m => exact (blockWork_evaluateAt s m).happens he
    case guardRecoveryStep m => exact (blockWork_evaluateAt s m).happens he
    case backoffIntervalExpiry => exact (blockWork_backoffStep s).happens he
    case decayTake => exact (blockWork_decayTake s).happens he
    case decayCompletion => exact (blockWork_decayCompletion s).happens he
    case commitExecution => exact (blockWork_executeScheduled s).happens he
    case clearingStart => exact (blockWork_clearingStart s).happens he
    case clearingComplete =>
      exact ((blockWork_reverbClear s).trans
        ((blockWork_clearingComplete _).trans (blockWork_releaseHeldRecall _))).happens he
    case fadeInEnd => exact (blockWork_fadeInEnd s).happens he
    case eraseCompletion => exact (blockWork_endOperation s).happens he
    case writeCompletion => exact (blockWork_endOperation s).happens he
    case recallCompletion => exact (blockWork_endOperation s).happens he
    case startRecordRewriteEnd => exact (blockWork_endOperation s).happens he
    all_goals cases hr

theorem keepsLegal_step {s t : State} (hs : step s = .next t) : KeepsLegal s t := by
  unfold step at hs
  split at hs
  · cases hs
    exact .refl s
  · next c rest _ =>
    have hp : KeepsLegal s { s with pending := rest } := {}
    exact hp.trans (keepsLegal_exec hs)

/-- Settles O4: a step keeps the ring legal, whatever command it takes. -/
theorem ringStaysLegal : Obligations.RingStaysLegal := fun _ _ h hs => (keepsLegal_step hs).ring h

/-- Settles O9: a step keeps both queues legal, and every counter in range. -/
theorem queuesAndCountersStayLegal : Obligations.QueuesAndCountersStayLegal :=
  ⟨fun _ _ h hs => ⟨(keepsLegal_step hs).recomputes h.1, (keepsLegal_step hs).notices h.2⟩,
    fun _ _ h hs => (keepsLegal_step hs).counters h⟩

end Sys2Proof.Machine
end

section
/-! The reset pin, requests that are not heard, and the lock machine: arrivals outside LOCKED and those that keep lock,
the oscillator's ticks, and the events of the lock machine (O16, O17, O30, O31, O34, O37). -/

namespace Sys2Proof.Machine

/-! ### The reset pin, and requests that are not heard -/

theorem happens_held {due : Bool} {f : State → State} {s : State} (h : s.resetPin = true) : happens due f s = .next s := by
  simp [happens, working, h]

theorem not_heard_of_held {h : Header} {s : State} (hs : s.resetPin = true) : ¬ Heard h s := fun hx =>
  absurd (hs.symm.trans hx.free) (by decide)

/-- Settles O16: what works needs the pin free, and what is left are the arrival, the power-on reset and the supply. -/
theorem resetPinHoldsThePart : Obligations.ResetPinHoldsThePart := by
  refine ⟨fun s hp => ?_, fun f s hp hr => ?_, fun c s hp hr h1 h2 h3 => ?_⟩
  · show execResetPinAssert s = _
    rw [execResetPinAssert, if_pos hp]
  · show execArrival f s = _
    simp [execArrival, hp, hr]
  · cases hc : c.request? with
    | some hd => rw [exec_request (h := hd.1) (r := hd.2) hc, handle_of_not_heard _ (not_heard_of_held hr)]
    | none =>
      cases c
      case powerOnReset straps => exact absurd rfl (h1 straps)
      case arrival f => exact absurd rfl (h2 f)
      case powerLoss => exact absurd rfl h3
      case resetPinAssert =>
        show execResetPinAssert s = _
        rw [execResetPinAssert, if_pos hp, ← hr]
      case oscillatorFramePeriod =>
        show execOscillatorFramePeriod s = _
        simp [execOscillatorFramePeriod, working, hr]
      case signalLoss =>
        show execSignalLoss s = _
        simp [execSignalLoss, working, hr]
      all_goals first
        | exact happens_held hr
        | cases hc

/-- Settles O17: every request command is the handling of its request. -/
theorem unheardRequestsChangeNothing : Obligations.UnheardRequestsChangeNothing := fun _ _ r s hc hs => by
  rw [exec_request hc, handle_of_not_heard r hs]

/-! ### Arrivals outside LOCKED -/

theorem exec_arrival_of_works {s : State} (hw : Works s) (f : Frame) : exec (.arrival f) s = .next (arrive f s) := by
  show execArrival f s = _
  simp [execArrival, hw.powered, hw.free]

theorem arrive_unlocked {s : State} (hl : s.ring.lock = .unlocked) (f : Frame) :
    arrive f s = send (forwardUnlocked (classify f) f)
      (setRing (unlockedArrival (classify f) (frameNumberOf f) (present (classify f) s).ring) (present (classify f) s)) := by
  unfold arrive
  dsimp only
  rw [hl]

/-- The ring's test for a completed run does not see what an arrival does first (R36). -/
theorem completesRun_present (c : FrameClass) (n : Nat) (s : State) :
    completesRun c n (present c s).ring = completesRun c n s.ring := by
  cases c <;> rfl

theorem arrive_acquiring {s : State} {f : Frame} (hl : s.ring.lock = .acquiring)
    (hc : completesRun (classify f) (frameNumberOf f) s.ring = false) :
    arrive f s = send (forwardUnlocked (classify f) f)
      (setRing (acquiringArrival (classify f) (frameNumberOf f) (present (classify f) s).ring) (present (classify f) s)) := by
  unfold arrive
  dsimp only
  rw [hl, completesRun_present, hc]
  rfl

theorem completesRun_good {n : Nat} {r : Ring} : completesRun .good n r = true ↔
    n = (r.acqRef + 1) % 16777216 ∧ 47 ≤ r.acqRun := by
  rw [completesRun, Bool.and_eq_true, Bool.and_eq_true, expectedRef, beq_iff_eq, beq_iff_eq, decide_eq_true_iff]
  exact ⟨fun h => ⟨h.1.2, Nat.le_of_succ_le_succ h.2⟩, fun h => ⟨⟨rfl, h.1⟩, Nat.succ_le_succ h.2⟩⟩

/-- Settles O30: outside LOCKED an arrival is its class's step of the lock machine, and the copy sent. -/
theorem arrivalOutsideLocked : Obligations.ArrivalOutsideLocked := by
  intro f s hw
  rw [exec_arrival_of_works hw]
  refine ⟨fun hl => ?_, fun hl => ⟨fun hc hn hr => ?_, fun hc hn => ?_, fun hc => ?_, fun hc => ?_⟩⟩
  · rw [arrive_unlocked hl]
    cases classify f <;> rfl
  · have hrun : completesRun (classify f) (frameNumberOf f) s.ring = false := by
      rw [← Bool.not_eq_true, hc, completesRun_good]
      omega
    have he : expectedRef (frameNumberOf f) (present .good s).ring = true := beq_iff_eq.2 hn
    rw [arrive_acquiring hl hrun, hc, acquiringArrival, if_pos he]
    rfl
  · have hrun : completesRun (classify f) (frameNumberOf f) s.ring = false := by
      rw [← Bool.not_eq_true, hc, completesRun_good]
      exact fun hx => hn hx.1
    have he : ¬ expectedRef (frameNumberOf f) (present .good s).ring = true := fun hx => hn (beq_iff_eq.1 hx)
    rw [arrive_acquiring hl hrun, hc, acquiringArrival, if_neg he]
    rfl
  · rw [arrive_acquiring hl (by rw [hc]; rfl), hc]
    rfl
  · rw [arrive_acquiring hl (by rw [hc]; rfl), hc]
    rfl

/-! ### The ring across a frame period that keeps lock -/

theorem PeriodWork.ring {on : Bool} {s t : State} (h : PeriodWork on s t) : ∃ back, t.ring =
    if on then { s.ring with handFront := s.ring.handBack, handBack := back } else s.ring := by
  obtain ⟨sent, h⟩ := h
  cases on with
  | false => exact ⟨sent, h.ring⟩
  | true => exact ⟨sent, h.ring⟩

theorem takeEvent_kept {env : Env} (hl : env.loss = false) (s : State) : RingCounted s.ring (takeEvent env s).ring ∧
    (env.usable = false ∨ env.frame = none → takeEvent env s = s) := by
  unfold takeEvent
  rw [hl, if_neg Bool.false_ne_true]
  cases env.frame with
  | none => exact ⟨rfl, fun _ => rfl⟩
  | some f =>
    dsimp only
    split
    · next hu => exact ⟨(cellWork_takeCell f s).ring, fun hx => by simp [hu] at hx⟩
    · exact ⟨rfl, fun _ => rfl⟩

/-- Where lock is kept, a frame period leaves of the ring all but the hand-off line, which has moved on, and the counters,
which a request of its cell may clear (R31). -/
theorem framePeriod_ring {env : Env} (hl : env.loss = false) (s : State) : ∃ back,
    RingCounted { s.ring with handFront := s.ring.handBack, handBack := back } (framePeriod env s).ring ∧
    (env.usable = false ∨ env.frame = none →
      (framePeriod env s).ring = { s.ring with handFront := s.ring.handBack, handBack := back }) := by
  obtain ⟨on, t, before, after⟩ := framePeriod_around_event env s
  obtain ⟨hr, hq⟩ := takeEvent_kept hl t
  obtain ⟨b1, h1⟩ := before.ring
  obtain ⟨b2, h2⟩ := after.ring
  generalize framePeriod env s = u at *
  have h1 : t.ring = if on then { s.ring with handFront := s.ring.handBack, handBack := b1 } else s.ring := h1
  unfold RingCounted at *
  generalize takeEvent env t = v at *
  cases on with
  | true =>
    simp only [if_true, Bool.not_true, Bool.false_eq_true, if_false] at h1 h2
    refine ⟨b1, ?_, fun hx => ?_⟩
    · rw [h2, hr, h1]
    · rw [h2, hq hx, h1]
  | false =>
    simp only [if_true, Bool.not_false, Bool.false_eq_true, if_false] at h1 h2
    refine ⟨b2, ?_, fun hx => ?_⟩
    · rw [h2, hr, h1]
    · rw [h2, hq hx, h1]

/-- State `t` has the ring that the frame period of ring `r` leaves where lock is kept, its counters aside. -/
structure RingLeft (r : Ring) (t : State) : Prop where
  front   : t.ring.handFront = r.handBack
  lock    : t.ring.lock = r.lock
  number  : t.ring.frameNumber = r.frameNumber
  errors  : t.ring.errors = r.errors
  goodRun : t.ring.goodRun = r.goodRun
  acqRun  : t.ring.acqRun = r.acqRun
  signal  : t.ring.signal = r.signal
  gap     : t.ring.gap = r.gap

theorem ringLeft_framePeriod {env : Env} (hl : env.loss = false) (s : State) : RingLeft s.ring (framePeriod env s) := by
  obtain ⟨back, h, _⟩ := framePeriod_ring hl s
  generalize framePeriod env s = u at *
  constructor <;> rw [h]

theorem ringLeft_ringPeriod {c : FrameClass} {f : Frame} {env : Env} (hl : env.loss = false) (s : State) :
    RingLeft s.ring (ringPeriod c f env s) := by
  have h := ringLeft_framePeriod hl s
  exact ⟨h.front, h.lock, h.number, h.errors, h.goodRun, h.acqRun, h.signal, h.gap⟩

/-- The counters of the ring across a frame period whose frame's contents are not used. -/
theorem counters_ringPeriod {c : FrameClass} {f : Frame} {env : Env} (hl : env.loss = false) (hu : env.usable = false)
    (s : State) : (ringPeriod c f env s).ring.badFrames = s.ring.badFrames ∧
      (ringPeriod c f env s).ring.flaggedFrames = s.ring.flaggedFrames := by
  obtain ⟨back, _, h⟩ := framePeriod_ring hl s
  have hr : (ringPeriod c f env s).ring = (framePeriod env s).ring := rfl
  rw [hr, h (.inl hu)]
  exact ⟨rfl, rfl⟩

/-- An arrival that goes on with the hand-off line of `s` and the signal present. -/
theorem RingLeft.movedOn {r : Ring} {s t : State} (h : RingLeft r t) (hb : r.handBack = s.ring.handBack)
    (hs : r.signal = true) (hg : r.gap = 0) : RingMovedOn s t :=
  ⟨h.front.trans hb, h.signal.trans hs, h.gap.trans hg⟩

/-! ### Arrivals that keep lock -/

/-- What an arrival brings first leaves the counts, the number and the hand-off line (R21, R36). -/
structure PresentRing (s t : State) : Prop where
  lock    : t.ring.lock = s.ring.lock
  number  : t.ring.frameNumber = s.ring.frameNumber
  errors  : t.ring.errors = s.ring.errors
  goodRun : t.ring.goodRun = s.ring.goodRun
  back    : t.ring.handBack = s.ring.handBack
  signal  : t.ring.signal = true
  gap     : t.ring.gap = 0
  node    : t.node = s.node

theorem presentRing (c : FrameClass) (s : State) : PresentRing s (present c s) := by
  cases c <;> exact ⟨rfl, rfl, rfl, rfl, rfl, rfl, rfl, rfl⟩

theorem arrive_locked {s : State} (hl : s.ring.lock = .locked) (f : Frame) :
    arrive f s = lockedArrival (classify f) f (present (classify f) s) := by
  unfold arrive
  dsimp only
  rw [hl]

theorem arrive_relock {s : State} {f : Frame} (hl : s.ring.lock = .acquiring)
    (hc : completesRun (classify f) (frameNumberOf f) s.ring = true) :
    arrive f s = relockArrival f (present (classify f) s) := by
  unfold arrive
  dsimp only
  rw [hl, completesRun_present, hc]
  rfl

theorem lastError_eq_false {s t : State} (h : PresentRing s t) (ht : s.ring.errors + 1 < s.node.threshold) :
    lastError t = false := by
  rw [lastError, decide_eq_false_iff_not, h.errors, h.node]
  omega

/-- Settles O31: the ring that the arrival sets up, carried through its frame period. -/
theorem arrivalKeepsLock : Obligations.ArrivalKeepsLock := by
  intro f s hw
  rw [exec_arrival_of_works hw]
  have hp := presentRing (classify f) s
  have hnext : nextFrame (present (classify f) s).ring.frameNumber = (s.ring.frameNumber + 1) % 16777216 := by
    rw [hp.number]
    rfl
  refine ⟨fun hl hc hn hr => ⟨_, rfl, ?_⟩, fun hl hc hn => ⟨_, rfl, ?_⟩, fun hl hc hn ht => ⟨_, rfl, ?_⟩,
    fun hl hc ht => ⟨_, rfl, ?_⟩, fun hl hc => ⟨_, rfl, ?_⟩⟩
  · rw [arrive_relock hl (by rw [hc]; exact completesRun_good.2 ⟨hn, hr⟩)]
    have h := ringLeft_ringPeriod (c := .good) (f := f) (env := arrivalEnv f true false true false) rfl
      (lockAt (frameNumberOf f) (present (classify f) s))
    exact ⟨h.movedOn hp.back hp.signal hp.gap, h.lock, h.number, h.errors, h.goodRun, h.acqRun⟩
  · rw [arrive_locked hl]
    rw [hc] at hp hnext ⊢
    rw [lockedArrival, if_pos (hn.trans hnext.symm)]
    have h := ringLeft_ringPeriod (c := .good) (f := f) (env := arrivalEnv f true false false false) rfl
      (setRing { goodCounted (present .good s).ring with
        frameNumber := nextFrame (present .good s).ring.frameNumber } (present .good s))
    obtain ⟨gl, gb, gs, gg⟩ := goodCounted_keeps (present .good s).ring
    refine ⟨h.movedOn (gb.trans hp.back) (gs.trans hp.signal) (gg.trans hp.gap), h.lock.trans (gl.trans (hp.lock.trans hl)),
      h.number.trans (hnext.trans hn.symm), fun hg => ?_, fun hg => ?_⟩
    · have hc : goodCounted (present .good s).ring =
          { (present .good s).ring with goodRun := (present .good s).ring.goodRun + 1 } :=
        if_neg (by rw [hp.goodRun]; exact Nat.not_le.2 (Nat.succ_lt_succ hg))
      exact ⟨h.goodRun.trans ((congrArg Ring.goodRun hc).trans (congrArg (· + 1) hp.goodRun)),
        h.errors.trans ((congrArg Ring.errors hc).trans hp.errors)⟩
    · have hc : goodCounted (present .good s).ring = { (present .good s).ring with errors := 0, goodRun := 0 } :=
        if_pos (by rw [hp.goodRun]; exact Nat.succ_le_succ hg)
      exact ⟨h.goodRun.trans (congrArg Ring.goodRun hc), h.errors.trans (congrArg Ring.errors hc)⟩
  · rw [arrive_locked hl]
    rw [hc] at hp hnext ⊢
    rw [lockedArrival, if_neg (fun hx => hn (hx.trans hnext)), slipArrival, lastError_eq_false hp ht, if_neg Bool.false_ne_true]
    have h := ringLeft_ringPeriod (c := .good) (f := f) (env := arrivalEnv f true true false false) rfl
      (setRing { errorCounted (present .good s).ring with frameNumber := frameNumberOf f } (present .good s))
    exact ⟨h.movedOn hp.back hp.signal hp.gap, h.lock.trans (hp.lock.trans hl), h.number, h.goodRun,
      h.errors.trans (congrArg (· + 1) hp.errors)⟩
  · rw [arrive_locked hl]
    rw [hc] at hp hnext ⊢
    rw [lockedArrival, badArrival, lastError_eq_false hp ht]
    have h := ringLeft_ringPeriod (c := .bad) (f := f) (env := arrivalEnv f false false false false) rfl
      (setRing { errorCounted (present .bad s).ring with frameNumber := nextFrame (present .bad s).ring.frameNumber }
        (present .bad s))
    have hb := counters_ringPeriod (c := .bad) (f := f) (env := arrivalEnv f false false false false) rfl rfl
      (setRing { errorCounted (present .bad s).ring with frameNumber := nextFrame (present .bad s).ring.frameNumber }
        (present .bad s))
    exact ⟨h.movedOn hp.back hp.signal hp.gap, h.lock.trans (hp.lock.trans hl), h.number.trans hnext, h.goodRun,
      h.errors.trans (congrArg (· + 1) hp.errors), hb.1⟩
  · rw [arrive_locked hl]
    rw [hc] at hp hnext ⊢
    rw [lockedArrival, flaggedArrival]
    have h := ringLeft_ringPeriod (c := .flagged) (f := f) (env := arrivalEnv f false false false false) rfl
      (setRing { (present .flagged s).ring with frameNumber := nextFrame (present .flagged s).ring.frameNumber }
        (present .flagged s))
    have hb := counters_ringPeriod (c := .flagged) (f := f) (env := arrivalEnv f false false false false) rfl rfl
      (setRing { (present .flagged s).ring with frameNumber := nextFrame (present .flagged s).ring.frameNumber }
        (present .flagged s))
    exact ⟨h.movedOn hp.back hp.signal hp.gap, h.lock.trans (hp.lock.trans hl), h.number.trans hnext,
      h.goodRun.trans hp.goodRun, h.errors.trans hp.errors, hb.2⟩

/-! ### The oscillator -/

theorem lockLoss_ring (s : State) : (lockLoss s).ring = (ringLockLoss s).ring := (blockWork_lockLoss s).ring

/-- Signal loss leaves UNLOCKED without signal (R21). -/
theorem signalLost_ring (s : State) : (signalLost s).ring.lock = .unlocked ∧ (signalLost s).ring.signal = false := by
  unfold signalLost
  dsimp only
  split
  · rw [lockLoss_ring]
    exact ⟨rfl, rfl⟩
  · exact ⟨rfl, rfl⟩
  · next h => exact ⟨h, rfl⟩

theorem exec_oscillator_of_works {s : State} (hw : Works s) :
    exec .oscillatorFramePeriod s = .next (oscillator s) := by
  show execOscillatorFramePeriod s = _
  rw [execOscillatorFramePeriod, if_pos (by simp [working, hw.powered, hw.free])]

theorem countGap_of_short {s : State} (h : s.ring.signal = true → s.ring.gap < 3) : countGap s =
    setRing { s.ring with gap := if s.ring.signal then s.ring.gap + 1 else s.ring.gap } s := by
  unfold countGap
  split
  · next hs =>
    have hg : ¬ Config.lossGap ≤ s.ring.gap + 1 := Nat.not_le.2 (Nat.succ_lt_succ (h hs))
    rw [if_neg hg]
  · rfl

theorem countGap_of_fourth {s : State} (hs : s.ring.signal = true) (hg : 3 ≤ s.ring.gap) : countGap s = signalLost s := by
  have hl : Config.lossGap ≤ s.ring.gap + 1 := Nat.succ_le_succ hg
  rw [countGap, if_pos hs, if_pos hl]

/-- A frame period of the oscillator has no event: its work is the blocks' and the hand-off line's (R19, R31). -/
theorem periodWork_oscillator (s : State) : ∃ on t, PeriodWork on (beginPeriod s) t ∧
    PeriodWork (!on) t (framePeriod oscillatorEnv s) :=
  framePeriod_around_event oscillatorEnv s

theorem PeriodWork.carries {on : Bool} {s t : State} (h : PeriodWork on s t) : t.started = s.started ∧ t.out = s.out := by
  obtain ⟨sent, h⟩ := h
  cases on <;> exact ⟨h.started, h.out⟩

/-- Settles O34: the frame period of the oscillator, the gap it counts, and the loss that the fourth brings. -/
theorem oscillatorTicks : Obligations.OscillatorTicks := by
  intro s hw
  rw [exec_oscillator_of_works hw]
  refine ⟨fun hl hg => ⟨_, rfl, ?_⟩, fun hl hs hg => ?_, fun hs hg => ⟨_, rfl, ?_⟩⟩
  · rw [oscillator, if_neg hl]
    have h := ringLeft_framePeriod (env := oscillatorEnv) rfl
      (setRing { s.ring with frameNumber := oscillatorNumber s } { s with out := ⟨none, none, none⟩ })
    obtain ⟨on, t, before, after⟩ := periodWork_oscillator
      (setRing { s.ring with frameNumber := oscillatorNumber s } { s with out := ⟨none, none, none⟩ })
    have hu : oscillatorPeriod { s with out := ⟨none, none, none⟩ } = framePeriod oscillatorEnv
      (setRing { s.ring with frameNumber := oscillatorNumber s } { s with out := ⟨none, none, none⟩ }) := rfl
    obtain ⟨hst, hout⟩ := before.carries
    obtain ⟨hst', hout'⟩ := after.carries
    rw [hu]
    generalize framePeriod oscillatorEnv _ = u at *
    rw [countGap_of_short (by rw [h.signal, h.gap]; exact hg)]
    refine ⟨hst'.trans hst, h.lock, h.number, h.front, h.signal, ?_, hout'.trans hout⟩
    show (if u.ring.signal then u.ring.gap + 1 else u.ring.gap) = _
    rw [h.signal, h.gap]
    rfl
  · rw [oscillator, if_pos hl, countGap_of_short (s := { s with out := ⟨none, none, none⟩ }) (fun _ => hg)]
    show Host.Outcome.next { s with ring := { s.ring with gap := if s.ring.signal then _ else _ }, out := _ } = _
    rw [if_pos hs]
  · unfold oscillator
    split
    · rw [countGap_of_fourth (s := { s with out := ⟨none, none, none⟩ }) hs hg]
      exact signalLost_ring _
    · have h := ringLeft_framePeriod (env := oscillatorEnv) rfl
        (setRing { s.ring with frameNumber := oscillatorNumber s } { s with out := ⟨none, none, none⟩ })
      have hu : oscillatorPeriod { s with out := ⟨none, none, none⟩ } = framePeriod oscillatorEnv
        (setRing { s.ring with frameNumber := oscillatorNumber s } { s with out := ⟨none, none, none⟩ }) := rfl
      rw [hu, countGap_of_fourth (h.signal.trans hs) (h.gap ▸ hg)]
      exact signalLost_ring _

/-! ### The events of the lock machine -/

/-- An enabled occurrence joins the queue or is counted by the entry of its kind (R195). -/
theorem takesOccurrence_enqueue (n : Nat) (k : NoticeKind) (edge : Edge) (q : List NoticeEntry) :
    TakesOccurrence n k edge q (enqueue n k edge q) := by
  refine ⟨fun before => ?_, fun h => ?_⟩
  · induction before generalizing q with
    | nil =>
      rintro e behind rfl _ he
      rw [List.nil_append, enqueue, if_pos he, ← he]
      rfl
    | cons x before ih =>
      rintro e behind rfl hb he
      obtain ⟨hx, hb⟩ := List.forall_mem_cons.1 hb
      rw [List.cons_append, enqueue, if_neg hx, ih _ e behind rfl hb he]
      rfl
  · induction q with
    | nil => rfl
    | cons x q ih =>
      obtain ⟨hx, hq⟩ := List.forall_mem_cons.1 h
      rw [enqueue, if_neg hx, ih hq]
      rfl

/-- Where one level alone moves, and it does not wait, the edges are its report (R192). -/
theorem edges_ringLocked {old new : State} (hr : levelHigh old .ringLocked = false) (hn : levelHigh new .ringLocked = true)
    (h : ∀ k ∈ levelKinds, k ≠ .ringLocked → levelHigh old k = levelHigh new k) :
    edges old new = report .ringLocked .rise new := by
  have he : edgeOf old new .ringLocked = report .ringLocked .rise new := by
    unfold edgeOf levelEdge
    rw [hr, hn]
    rfl
  have hs : ∀ k ∈ levelKinds, k ≠ .ringLocked →
      edgeOf old (report .ringLocked .rise new) k = report .ringLocked .rise new := by
    intro k hk hne
    apply edgeOf_same
    rw [h k hk hne]
    cases k <;> rfl
  simp only [edges, levelKinds, List.foldl_cons, List.foldl_nil]
  rw [he, hs .inputMissing (by decide) (by decide), hs .guardActive (by decide) (by decide),
    hs .backoffActive (by decide) (by decide), hs .sceneBusy (by decide) (by decide), hs .storeBusy (by decide) (by decide)]

theorem lockAcquired_levels (n : Nat) (s : State) (k : NoticeKind) (hk : k ≠ .ringLocked) :
    levelHigh s k = levelHigh { lockAt n s with started := true } k := by
  cases k <;> first | exact absurd rfl hk | rfl

/-- The effects of a lock loss on a state whose signal and gap may just have been set (R29). -/
theorem lockIsLost {s u : State} {signal : Bool} {gap : Nat} (hu : u = setRing { s.ring with signal := signal, gap := gap } s)
    (hl : s.ring.lock = .locked) : LockIsLost s (lockLoss u) := by
  have hring := lockLoss_ring u
  have hf := lockLoss_frame u
  have hlost := withEdges_frame lockLost u
  have hlat : latched (lockLoss u) .ringLocked = true := by
    refine (reported_edges u (lockLost u)).flags .ringLocked |>.2 (.inr ⟨by decide, rfl, ?_⟩)
    have h1 : levelHigh u .ringLocked = true := by
      subst hu
      exact beq_iff_eq.2 hl
    have h2 : levelHigh (lockLost u) .ringLocked = false := by
      show ((lockLost u).ring.lock == .locked) = false
      rw [(blockWork_lockLost u).ring]
      rfl
    rw [h1, h2]
    decide
  have hin : (lockLoss u).inputs = (inputsLockLoss (ringLockLoss u)).inputs := by
    rw [lockLoss, withEdges_inputs, lockLost, captureLockLoss_frame, engineLockLoss_frame]
    rfl
  have hout : (lockLoss u).outputs = (outputsLockLoss (ringLockLoss u)).outputs := by
    rw [lockLoss, withEdges_outputs, lockLost, captureLockLoss_frame, engineLockLoss_frame]
    rfl
  have hgen : (lockLoss u).gen = { u.gen with running := false, remaining := 0, first := false, next := none } := by
    rw [lockLoss, withEdges_gen, lockLost, captureLockLoss_frame, engineLockLoss_frame]
    rfl
  have heng : (lockLoss u).engine = (engineLockLoss u).engine := by
    rw [lockLoss, withEdges_engine, lockLost, captureLockLoss_frame]
    unfold engineLockLoss
    show (if u.engine.state = .scheduled then _ else _ : State).engine = _
    split <;> rfl
  have hcap : (lockLoss u).capture = (captureLockLoss u).capture := by
    have hc : ∀ v : State, v.capture = u.capture → (captureLockLoss v).capture = (captureLockLoss u).capture := by
      intro v hv
      unfold captureLockLoss
      rw [hv]
      split
      · rfl
      · exact hv
    rw [lockLoss, withEdges_capture, lockLost]
    refine hc _ ?_
    rw [engineLockLoss_frame]
    rfl
  generalize lockLoss u = t at *
  subst hu
  refine ⟨?_, fun i => ?_, fun m => ?_, hgen, ?_, ?_, ?_, hlat⟩
  · rw [hring]
    rfl
  · rw [hin]
    simp only [inputsLockLoss, getElem_changeAll, absented]
    rfl
  · rw [hout]
    simp only [outputsLockLoss, getElem_changeAll]
    rfl
  · rw [heng]
    unfold engineLockLoss
    show (if s.engine.state = .scheduled then _ else _ : State).engine = _
    split <;> rfl
  · rw [hcap]
    unfold captureLockLoss
    show (if s.capture.state = .armed ∧ s.capture.trigger = .atFrame then _ else _ : State).capture = _
    split <;> rfl
  · rw [hf]
    rfl

/-- Settles O37: each event of the lock machine, taken where it can come about. -/
theorem lockEvents : Obligations.LockEvents := by
  intro s hw
  have hloss (hs : s.ring.signal = true) : exec .signalLoss s = .next (signalLost s) := by
    show execSignalLoss s = _
    rw [execSignalLoss, if_pos (by simp [working, hw.powered, hw.free, hs])]
  refine ⟨fun hs => ?_, fun hs => ⟨fun hl => ?_, fun hl => ?_, fun hl => ⟨_, hloss hs, ?_⟩⟩, fun hl hr => ?_,
    fun hl hg => ?_, fun hl => ?_⟩
  · show execSignalLoss s = _
    rw [execSignalLoss, hs, Bool.and_false]
    rfl
  · rw [hloss hs, signalLost, hl]
    rfl
  · rw [hloss hs, signalLost, hl]
    rfl
  · have ht : signalLost s = lockLoss (setRing { s.ring with signal := false, gap := 0 } s) := by
      rw [signalLost, hl]
    rw [ht]
    refine ⟨?_, ?_, lockIsLost rfl hl⟩ <;> rw [lockLoss_ring] <;> rfl
  · have he : exec .lockAcquired s = .next (report .ringLocked .rise
        { lockAt (nextFrame s.ring.acqRef) s with started := true }) := by
      show execLockAcquired s = _
      rw [execLockAcquired, happens_due hw (by simp [lockAcquiredDue, hl, hr, Config.acquireRun]), withEdges,
        edges_ringLocked (by simp [levelHigh, hl]) rfl (fun k _ hk => lockAcquired_levels _ s k hk)]
    refine ⟨_, he, ?_, fun hen => ?_, fun hen => ?_, rfl⟩
    · exact (report_flags .ringLocked .rise _ (NoticeKind.code .ringLocked)).trans (if_pos rfl)
    · have hon : enabled s.node.enables .ringLocked .rise = true := by
        simpa [enabled, NoticeKind.code] using hen
      show TakesOccurrence _ _ _ _ (if enabled s.node.enables .ringLocked .rise then _ else _)
      rw [if_pos hon]
      exact takesOccurrence_enqueue _ _ _ _
    · have hon : enabled s.node.enables .ringLocked .rise = false := by
        simpa [enabled, NoticeKind.code] using hen
      show (if enabled s.node.enables .ringLocked .rise then _ else s.notices.queue) = _
      rw [if_neg (by simp [hon])]
  · show execGoodRunComplete s = _
    rw [execGoodRunComplete, happens_due hw (by simp [goodRunDue, hl, hg, Config.forgiveRun]), withEdges_of_still]
    · rfl
    · intro k _
      cases k <;> rfl
  · refine ⟨lockLoss s, happens_due hw (by simp [hl]), ?_, ?_, lockIsLost (signal := s.ring.signal) (gap := s.ring.gap) rfl hl⟩ <;>
      rw [lockLoss_ring] <;> rfl

end Sys2Proof.Machine
end

section
/-! The state after reset, and the state that a power-on reset gives (O3, O28). -/

namespace Sys2Proof.Machine

/-! ### The silence bank -/

theorem firstFailure_none {n : Nat} (code : Nat) {fails : Fin n → Bool} (h : ∀ i, fails i = false) :
    firstFailure code fails = none := by
  rw [firstFailure, List.find?_eq_none.2 fun i _ => by simp [h i], Option.map_none]

/-- The silence bank uses no line, no injection, no slot and no tap, so nothing in it can fail (R123, R129). -/
theorem setCheck_silenceBank : setCheck silenceBank = none := by
  have used (j : Fin 16) : lineUsed silenceBank j = false := by simp [lineUsed, silenceBank]
  have line (j : Fin 16) : lineFails silenceBank j = false := by
    simp [lineFails, lineOutside, lineOverlaps, groupMixed, used]
  have injection (n : Fin 128) : injectionFails silenceBank n = false := by simp [injectionFails, silenceBank]
  have output (m : Fin 32) : outputFails silenceBank m = false := by
    simp [outputFails, runsOverlap, silenceBank]
  have tap (t : Fin 512) : tapFails silenceBank t = false := by
    have run (m : Fin 32) : inRun silenceBank.outputs[m] t.val = false := by simp [inRun, silenceBank]
    simp only [tapFails, run, List.any_eq_false.2 fun (_ : Fin 32) _ => Bool.false_ne_true, Bool.false_and]
  rw [setCheck, firstFailure_none 2 line, firstFailure_none 1 injection, firstFailure_none 4 output, firstFailure_none 3 tap]
  rfl

theorem thresholdSamples_default : thresholdSamples 48 = 5938687 := by decide

/-- Every default of R124 lies within its range. -/
theorem legal_silenceBank : silenceBank.Legal where
  inputs i := by
    simp only [silenceBank, Fin.getElem_fin, Vector.getElem_replicate]
    exact ⟨by decide, by decide, by decide⟩
  injections n := by
    simp only [silenceBank, Fin.getElem_fin, Vector.getElem_replicate]
    exact Nat.le_refl _
  lines j := by
    simp only [silenceBank, Fin.getElem_fin, Vector.getElem_replicate]
    exact ⟨by decide, rfl, by decide, by decide, by decide⟩
  taps t := by
    simp only [silenceBank, Fin.getElem_fin, Vector.getElem_replicate]
    exact ⟨by decide, by decide, by decide⟩
  outputs m := by
    simp only [silenceBank, Fin.getElem_fin, Vector.getElem_replicate]
    exact ⟨by decide, by decide, by decide⟩
  profiles p := by
    simp only [silenceBank, Fin.getElem_fin, Vector.getElem_replicate]
    exact ⟨by decide, thresholdSamples_default.symm, by decide, by decide, by decide, by decide, by decide⟩
  globals := ⟨by decide, by decide, by decide, by decide, by decide, by decide, by decide, nofun⟩

/-! ### Reset -/

theorem engineLegal_reset : EngineLegal State.reset.engine :=
  ⟨iff_of_true rfl rfl, iff_of_false nofun nofun, nofun, Nat.le_refl 2⟩

theorem storeLegal_reset : StoreLegal State.reset.store :=
  ⟨fun _ => ⟨rfl, rfl⟩, fun h => absurd rfl h, iff_of_false nofun nofun, iff_of_false nofun nofun⟩

theorem memoriesLegal_reset : MemoriesLegal State.reset where
  pool := rfl
  inside := nofun
  capture := rfl
  sectors n := by
    simp only [State.reset, Fin.getElem_fin, Vector.getElem_replicate]
    rfl
  record := rfl

theorem tablesLegal_reset : TablesLegal State.reset where
  bankA := legal_silenceBank
  bankB := legal_silenceBank
  amendments k := by
    simp only [State.reset, Fin.getElem_fin, Vector.getElem_replicate]
    exact ⟨by decide, by decide, rfl⟩

theorem scenesPass_reset : ScenesPass State.reset where
  active := setCheck_silenceBank
  position j h := absurd (by simp [activeBank, bankOf, State.reset, silenceBank]) h
  pending := nofun

/-- Settles O3: each legality at the values of `State.reset`. -/
theorem resetIsLegal : Obligations.ResetIsLegal :=
  ⟨ringLegal_reset, outputsLegal_sound.reset, engineLegal_reset, storeLegal_reset, iff_of_false nofun nofun, List.nodup_nil,
    ⟨List.nodup_nil, nofun⟩, countersLegal_reset, memoriesLegal_reset, samplesLegal_sound.reset, tablesLegal_reset,
    scenesPass_reset⟩

/-! ### Power-on -/

theorem enabled_off (k : NoticeKind) (e : Edge) :
    enabled ⟨Vector.replicate 6 false, Vector.replicate 6 false, Vector.replicate 9 false⟩ k e = false := by
  have h (n c : Nat) : (Vector.replicate n false).toList.getD c false = false := by
    simp [List.getD_eq_getElem?_getD, List.getElem?_replicate]
    split <;> rfl
  cases e <;> exact h _ _

/-- With nothing enabled, occurrences leave the queue as it is (R194). -/
theorem Reports.of_off {n : Nat} {q p : List NoticeEntry}
    (h : Reports n ⟨Vector.replicate 6 false, Vector.replicate 6 false, Vector.replicate 9 false⟩ q p) : p = q := by
  induction h with
  | none => rfl
  | next _ _ on _ => exact absurd on (by rw [enabled_off]; decide)

/-- The part at power-on, before its scan: its straps read and its nonvolatile memory kept (R37, R157). -/
def powerOnBase (straps : Nat) (s : State) : State :=
  { State.reset with
    node := { State.reset.node with number := straps }
    store := { State.reset.store with memory := s.store.memory, startMemory := s.store.startMemory }
    notices := ⟨Vector.replicate 15 false, []⟩
    draws := s.draws + 1
    pending := s.pending }

/-- With no operation under way nothing is cut short (R157). -/
theorem powerOn_of_idle {straps : Nat} {s : State} (hst : straps < 16) (hi : s.store.state = .idle)
    (hs : s.store.suspended = none) (hr : s.store.newRecord = none) :
    powerOn straps s = withEdges startUpRecall (powerOnScan (powerOnBase straps s)) := by
  have hm : cutMemory s = s.store.memory := by
    unfold cutMemory
    dsimp only
    rw [hi, hs]
  have hc : cutRecord s = s.store.startMemory := by
    unfold cutRecord
    rw [hr]
  unfold powerOn powerOnBase storeCutShort
  dsimp only
  rw [hm, hc, Nat.mod_eq_of_lt hst]

/-- The state that the scan leaves: the sectors' states and the start record as found (R157). -/
structure Scanned (base t : State) : Prop where
  frame : t = { base with notices := t.notices, store := { base.store with
    sectors := changeAll base.store.memory (fun _ m => scanSector m)
    record := (scanRecord base.store.startMemory).getD defaultRecord } }
  flags : ∀ k, latched t k = true ↔
    latched base k = true ∨ k = .storeFailed ∧ (scanRecord base.store.startMemory).isNone = true

theorem scanned_powerOnScan (base : State) : Scanned base (powerOnScan base) where
  frame := by
    unfold powerOnScan
    dsimp only
    rw [pulseIf_frame]
  flags := (reported_pulseIf _ .storeFailed _).flags

/-- The start-up recall begun, or nothing (R158). -/
theorem startUpRecall_cases (s : State) :
    (∃ n, s.store.record.start = some n ∧ s.store.sectors[n] = .valid ∧
      startUpRecall s = { beginRecall n s with store := { (beginRecall n s).store with startUp := true } }) ∨
    (∀ n, s.store.record.start = some n → s.store.sectors[n] ≠ .valid) ∧ startUpRecall s = s := by
  unfold startUpRecall
  split
  · next n hn =>
    split
    · next hv => exact .inl ⟨n, hn, hv, rfl⟩
    · next hv =>
      refine .inr ⟨fun m hm => ?_, rfl⟩
      obtain rfl : n = m := Option.some.inj (hn.symm.trans hm)
      exact hv
  · next hn => exact .inr ⟨fun n hm => (by rw [hn] at hm; cases hm), rfl⟩

theorem latched_powerOnBase (straps : Nat) (s : State) (k : NoticeKind) : latched (powerOnBase straps s) k = false := by
  simp [latched, powerOnBase]

/-- A recall begun by an idle store with nothing to recompute changes the store and its mark alone (R158, R162). -/
theorem beginRecall_of_idle {n : Fin 16} {s : State} (hi : s.store.state = .idle) (hd : s.decay = ⟨[], none⟩) :
    beginRecall n s = { s with
      store := { s.store with
        state := .recalling, sector := some n, count := 12, image := readImage s.store.memory[n], suspended := none
        startUp := false }
      marks := { s.marks with store := true } } := by
  unfold beginRecall dropRecomputes beginOperation
  dsimp only
  rw [hi, if_neg (by decide), hd]
  show ({ s with decay := ⟨[], none⟩, store := _, marks := _ } : State) = _
  rw [← hd]
  rfl

/-- With INPUT_MISSING not waiting, STORE_BUSY is the one level that a start-up recall moves. -/
theorem moves_store {s t : State} (ht : t = { s with store := t.store, marks := t.marks }) (k : NoticeKind) :
    k ∈ levelKinds ∧ Moves s t k ↔ k = .storeBusy ∧ levelHigh s .storeBusy ≠ levelHigh t .storeBusy := by
  have hs : ∀ j, j ≠ .storeBusy → levelHigh s j = levelHigh t j := by
    intro j hj
    rw [ht]
    cases j <;> first | exact absurd rfl hj | rfl
  constructor
  · rintro ⟨_, _, h⟩
    by_cases hk : k = .storeBusy
    · subst hk
      exact ⟨rfl, h⟩
    · exact absurd (hs k hk) h
  · rintro ⟨rfl, h⟩
    exact ⟨by decide, rfl, h⟩

/-- Settles O28: the base that power-on sets up, scanned, and the start-up recall begun where its sector is VALID. -/
theorem powerOnResetGivesThePowerOnState : Obligations.PowerOnResetGivesThePowerOnState := by
  intro straps s hst hi hs hr
  refine ⟨_, rfl, ?_⟩
  rw [powerOn_of_idle hst hi hs hr]
  obtain ⟨hf, hflags⟩ := scanned_powerOnScan (powerOnBase straps s)
  have hq : (powerOnScan (powerOnBase straps s)).notices.queue = [] :=
    (blockWork_powerOnScan (powerOnBase straps s)).reports.of_off
  simp only [latched_powerOnBase, Bool.false_eq_true, false_or] at hflags
  generalize powerOnScan (powerOnBase straps s) = u at *
  have hw : BlockWork u (withEdges startUpRecall u) := (blockWork_startUpRecall u).withEdges
  have hnode : u.node = ⟨straps, 4, ⟨Vector.replicate 6 false, Vector.replicate 6 false, Vector.replicate 9 false⟩⟩ := by
    rw [hf]
    rfl
  have hstate : u.store.state = .idle := by rw [hf]; rfl
  have hdecay : u.decay = ⟨[], none⟩ := by rw [hf]; rfl
  have hqueue : (withEdges startUpRecall u).notices.queue = [] := by
    have h := hw.reports
    rw [hnode] at h
    rw [h.of_off, hq]
  have hrec : ∃ st mk, startUpRecall u = { u with store := st, marks := mk } ∧ st.suspended = none ∧
      st.amendments = u.store.amendments ∧ st.memory = u.store.memory ∧ st.startMemory = u.store.startMemory ∧
      st.sectors = u.store.sectors ∧ st.record = u.store.record ∧
      (∀ n : Fin 16, u.store.record.start = some n → u.store.sectors[n] = .valid →
        st.state = .recalling ∧ st.sector = some n ∧ st.count = 12) ∧
      ((∀ n : Fin 16, u.store.record.start = some n → u.store.sectors[n] ≠ .valid) → st.state = .idle) := by
    rcases startUpRecall_cases u with ⟨n, hn, hv, he⟩ | ⟨hno, he⟩
    · rw [beginRecall_of_idle hstate hdecay] at he
      refine ⟨_, _, he, rfl, rfl, rfl, rfl, rfl, rfl, fun m hm _ => ⟨rfl, ?_, rfl⟩, fun hx => absurd hv (hx n hn)⟩
      exact hn.symm.trans hm
    · refine ⟨u.store, u.marks, he, ?_, rfl, rfl, rfl, rfl, rfl, fun n hn hv => absurd hv (hno n hn), fun _ => hstate⟩
      rw [hf]
      rfl
  obtain ⟨st, mk, he, hsus, ham, hmem, hstart, hsec, hrecord, hvalid, hidle⟩ := hrec
  have hlat : ∀ k, latched (withEdges startUpRecall u) k = true ↔
      (k = .storeFailed ∧ (scanRecord s.store.startMemory).isNone = true) ∨ k = .storeBusy ∧ st.state ≠ .idle := by
    intro k
    have h := (reported_edges u (startUpRecall u)).flags k
    have hm : levelHigh u .storeBusy ≠ levelHigh (startUpRecall u) .storeBusy ↔ st.state ≠ .idle := by
      have h1 : levelHigh u .storeBusy = false := by
        show (u.store.state != .idle) = false
        rw [hstate]
        rfl
      have h2 : levelHigh (startUpRecall u) .storeBusy = (st.state != .idle) := by rw [he]; rfl
      rw [h1, h2]
      cases st.state <;> simp
    rw [moves_store (by rw [he]) k, hm] at h
    refine h.trans (or_congr_left ?_)
    rw [he]
    exact hflags k
  have hsectors : u.store.sectors = changeAll s.store.memory (fun _ m => scanSector m) := by rw [hf]; rfl
  have hscan (n : Fin 16) : u.store.sectors[n] = scanSector s.store.memory[n] := by rw [hsectors, getElem_changeAll]
  have hfound : u.store.record = (scanRecord s.store.startMemory).getD defaultRecord := by rw [hf]; rfl
  have hstore : (withEdges startUpRecall u).store = st := by rw [withEdges_store, he]
  have ht := withEdges_frame startUpRecall u
  rw [he] at ht
  generalize withEdges startUpRecall u = t at *
  have htu : t = { u with store := st, marks := mk, notices := t.notices } := ht
  rw [hf] at htu
  clear ht he
  refine ⟨by rw [htu]; rfl, by rw [htu]; rfl, by rw [htu]; rfl, hw.node.trans hnode, by rw [htu]; rfl, by rw [htu]; rfl,
    by rw [htu]; rfl, by rw [htu]; rfl, by rw [htu]; rfl, by rw [htu]; rfl, by rw [htu]; rfl, by rw [htu]; rfl,
    by rw [htu]; rfl, by rw [htu]; rfl, by rw [htu]; rfl, by rw [hstore, hsus], ?_, by rw [htu]; rfl, by rw [htu]; rfl, hqueue,
    fun k hk => ?_, ?_, ?_, by rw [htu]; rfl, fun n => ?_, ?_, ?_, fun n hn hv => ?_, fun hno => ?_⟩
  · rw [hstore, ham, hf]
    rfl
  · rw [← Bool.not_eq_true, hlat]
    simp only [List.mem_cons, List.not_mem_nil, or_false, not_or] at hk
    simp [hk]
  · rw [hstore, hmem, hf]
    rfl
  · rw [hstore, hstart, hf]
    rfl
  · rw [hstore, hsec, hscan]
  · rw [hstore, hrecord, hfound]
  · rw [Bool.eq_iff_iff, hlat]
    simp
  · rw [hstore, hrecord] at hn
    obtain ⟨h1, h2, h3⟩ := hvalid n hn (by rw [hscan, hv])
    rw [hstore]
    exact ⟨h1, h2, h3, (hlat .storeBusy).2 (.inr ⟨rfl, by simp [h1]⟩)⟩
  · rw [hstore, hrecord] at hno
    have h1 := hidle fun n hn hv => hno n hn (by rw [← hscan, hv])
    rw [hstore]
    refine ⟨h1, ?_⟩
    rw [← Bool.not_eq_true, hlat]
    simp [h1]

end Sys2Proof.Machine
end

section
/-! The warm reset (R37, R52, R81, R120, R152, R153, R191, R197): the state it leaves, and its own occurrences in the
cleared Notice Unit. -/

namespace Sys2Proof.Machine

/-! ### Notices that hold given occurrences and no other -/

/-- The flags and the queue hold the occurrences of `occ` and no other: one at most of a kind, each of frame period `n`,
latched, and queued where it is enabled. -/
structure HoldsOnly (n : Nat) (en : Enables) (occ : NoticeKind → Option Edge) (m : Notices) : Prop where
  flags   : ∀ k : NoticeKind, m.flags[k.code] = (occ k).isSome
  entries : ∀ x ∈ m.queue, (occ x.kind).isSome = true ∧ x.count = 1 ∧ x.first = n
  queued  : ∀ k e, occ k = some e → ((∃ x ∈ m.queue, x.kind = k) ↔ enabled en k e = true)

theorem holdsOnly_clearNotices (n : Nat) (en : Enables) (s : State) :
    HoldsOnly n en (fun _ => none) (clearNotices s).notices where
  flags _ := by simp [clearNotices]
  entries _ hx := nomatch hx
  queued _ _ h := nomatch h

/-- An occurrence of a kind that the queue does not hold joins as an entry of its own. -/
theorem enqueue_of_new {n : Nat} {k : NoticeKind} {e : Edge} {q : List NoticeEntry} (h : ∀ x ∈ q, x.kind ≠ k) :
    enqueue n k e q = q ++ [⟨k, n, 1, e⟩] := by
  induction q with
  | nil => rfl
  | cons x q ih =>
    obtain ⟨hx, hq⟩ := List.forall_mem_cons.1 h
    simp [enqueue, hx, ih hq]

theorem HoldsOnly.report {occ : NoticeKind → Option Edge} {k : NoticeKind} (e : Edge) {s : State} {n : Nat} {en : Enables}
    (h : HoldsOnly n en occ s.notices) (hn : s.ring.frameNumber = n) (he : s.node.enables = en) (hk : occ k = none) :
    HoldsOnly n en (fun j => if j = k then some e else occ j) (report k e s).notices := by
  have hnew : ∀ x ∈ s.notices.queue, x.kind ≠ k := fun x hx hxk => by
    have := (h.entries x hx).1
    simp [hxk, hk] at this
  have hqueue : (Machine.report k e s).notices.queue =
      if enabled en k e then s.notices.queue ++ [⟨k, n, 1, e⟩] else s.notices.queue := by
    rw [← enqueue_of_new hnew, ← hn, ← he]
    rfl
  refine ⟨fun j => ?_, fun x hx => ?_, fun j d hj => ?_⟩
  · rw [report_flags]
    by_cases hj : j = k
    · simp [hj]
    · have hc : j.code ≠ k.code := fun hc => hj (code_injective _ _ hc)
      simp [hj, hc, h.flags]
  · rw [hqueue] at hx
    have hold : x ∈ s.notices.queue →
        (if x.kind = k then some e else occ x.kind).isSome = true ∧ x.count = 1 ∧ x.first = n := fun hx => by
      simpa [hnew x hx] using h.entries x hx
    split at hx
    · rcases List.mem_append.1 hx with hx | hx
      · exact hold hx
      · rw [List.mem_singleton.1 hx]
        simp
    · exact hold hx
  · rw [hqueue]
    by_cases hjk : j = k
    · subst hjk
      obtain rfl : e = d := by simpa using hj
      split
      · next on => simp [on]
      · next off => simpa [off] using hnew
    · have := h.queued j d (by simpa [hjk] using hj)
      rw [← this]
      split
      · simp [Ne.symm hjk]
      · rfl

/-! ### The edges of an operation -/

/-- The edge that the operation from `old` to `new` reports of a level (R192). -/
def edgeReported (old new : State) (k : NoticeKind) : Option Edge :=
  if edgeWaits new k then none
  else if levelHigh old k = levelHigh new k then none
  else if levelHigh new k then some .rise else some .fall

theorem edgeReported_isSome (old new : State) (k : NoticeKind) :
    (edgeReported old new k).isSome = true ↔ Moves old new k := by
  unfold edgeReported Moves
  split
  · simp [*]
  · next hw =>
    split
    · simp [*]
    · next hl => split <;> simp [hw, hl]

theorem edgeOf_eq (old s : State) (k : NoticeKind) :
    edgeOf old s k = match edgeReported old s k with
      | some e => report k e s
      | none => s := by
  unfold edgeOf edgeReported levelEdge
  split
  · rfl
  · cases levelHigh old k <;> cases levelHigh s k <;> rfl

theorem edgeReported_report (old s : State) (j : NoticeKind) (e : Edge) :
    edgeReported old (report j e s) = edgeReported old s := by
  have hl : ∀ k, levelHigh (report j e s) k = levelHigh s k := fun k => by cases k <;> rfl
  funext k
  unfold edgeReported
  rw [hl]
  rfl

theorem HoldsOnly.foldl_edgeOf {occ : NoticeKind → Option Edge} (old : State) {n : Nat} {en : Enables} (l : List NoticeKind)
    (hl : l.Nodup) {s : State} (h : HoldsOnly n en occ s.notices) (hn : s.ring.frameNumber = n) (he : s.node.enables = en)
    (ho : ∀ k ∈ l, occ k = none) :
    HoldsOnly n en (fun k => if k ∈ l then edgeReported old s k else occ k) (l.foldl (edgeOf old) s).notices := by
  induction l generalizing occ s with
  | nil => simpa using h
  | cons j l ih =>
    obtain ⟨hj, hl⟩ := List.nodup_cons.1 hl
    obtain ⟨hoj, ho⟩ := List.forall_mem_cons.1 ho
    rw [List.foldl_cons, edgeOf_eq]
    cases hr : edgeReported old s j with
    | none =>
      convert ih hl h hn he ho using 2 with k
      by_cases hk : k = j
      · simp [hk, hj, hr, hoj]
      · simp [hk]
    | some e =>
      have hlater : ∀ k ∈ l, (if k = j then some e else occ k) = none := fun k hk => by
        have hkj : k ≠ j := fun hkj => hj (hkj ▸ hk)
        rw [if_neg hkj]
        exact ho k hk
      have hstep := ih hl (h.report e hn he hoj) hn he hlater
      rw [edgeReported_report] at hstep
      convert hstep using 2 with k
      by_cases hk : k = j
      · simp [hk, hj, hr]
      · simp [hk]

/-! ### The warm reset -/

/-- A warm reset cancels the commit under way: it is scheduled, or fading out or clearing for a COMMIT (R152). -/
def cancelsCommit (e : Engine) : Bool :=
  match e.state, e.operation with
  | .scheduled, _ => true
  | .fadeOut, .commit _ | .clearing, .commit _ => true
  | _, _ => false

theorem cancelsCommit_iff (e : Engine) :
    cancelsCommit e = true ↔
      e.state = .scheduled ∨ ((e.state = .fadeOut ∨ e.state = .clearing) ∧ ∃ mode, e.operation = .commit mode) := by
  unfold cancelsCommit
  cases e.state <;> cases e.operation <;> simp

/-- COMMIT_DONE is owed after a warm reset: it took over a COMMIT in FADE_IN, or it was owed before (R152, R153). -/
def owedAfterReset (e : Engine) : Bool :=
  match e.state, e.operation with
  | .fadeIn, .commit _ => true
  | _, _ => e.owed

/-- The engine after a warm reset (R153). -/
def engineReset (e : Engine) : Engine :=
  { e with state := if e.state = .clearing then .clearing else .fadeOut, operation := .reset, scheduled := none
           owed := owedAfterReset e }

theorem resetCommit_cases (s : State) :
    (cancelsCommit s.engine = true ∧ owedAfterReset s.engine = s.engine.owed ∧ resetCommit s = pulse .commitCancelled s) ∨
    (cancelsCommit s.engine = false ∧ resetCommit s = setEngine { s.engine with owed := owedAfterReset s.engine } s) := by
  unfold resetCommit cancelsCommit owedAfterReset
  cases hs : s.engine.state with
  | scheduled => exact .inl ⟨rfl, rfl, rfl⟩
  | steady => exact .inr ⟨rfl, rfl⟩
  | fadeOut | clearing =>
    cases ho : s.engine.operation with
    | commit mode => exact .inl ⟨rfl, rfl, rfl⟩
    | reset | none => exact .inr ⟨rfl, rfl⟩
  | fadeIn =>
    cases ho : s.engine.operation with
    | commit _ | reset | none => exact .inr ⟨rfl, rfl⟩

theorem resetCommit_engine (s : State) :
    (resetCommit s).engine = { s.engine with owed := owedAfterReset s.engine } := by
  rcases resetCommit_cases s with ⟨_, ho, h⟩ | ⟨_, h⟩
  · rw [h, ho]
    rfl
  · rw [h]
    rfl

theorem engineWarmReset_engine (s : State) : (engineWarmReset s).engine = engineReset s.engine := by
  unfold engineWarmReset selfCut engineReset
  rw [resetCommit_engine]
  dsimp only
  split <;> simp [startClearing, setEngine, *]

/-- The core after the self-CUT of a warm reset: its clearing begun again in CLEARING (R153). -/
theorem engineWarmReset_reverb (s : State) :
    (engineWarmReset s).reverb =
      if s.engine.state = .clearing then { s.reverb with clearing := true, clearCount := 0 } else s.reverb := by
  unfold engineWarmReset selfCut
  rw [resetCommit_engine, resetCommit_frame]
  dsimp only
  split <;> simp [startClearing, setEngine]

theorem engineWarmReset_missing (s : State) : (engineWarmReset s).marks.missing = s.marks.missing := by
  unfold engineWarmReset selfCut
  rw [resetCommit_frame]
  dsimp only
  split <;> rfl

/-- The pulse of a warm reset: COMMIT_CANCELLED where it cancels a commit (R152). -/
def cancelReported (e : Engine) (k : NoticeKind) : Option Edge :=
  if k = .commitCancelled ∧ cancelsCommit e = true then some .none else none

theorem HoldsOnly.engineWarmReset {s : State} {n : Nat} {en : Enables} (h : HoldsOnly n en (fun _ => none) s.notices)
    (hn : s.ring.frameNumber = n) (he : s.node.enables = en) :
    HoldsOnly n en (cancelReported s.engine) (engineWarmReset s).notices := by
  have hcut : ∀ u : State, (selfCut u).notices = u.notices := fun u => by rw [selfCut_frame]
  rw [Machine.engineWarmReset, hcut]
  rcases resetCommit_cases s with ⟨hc, _, hs⟩ | ⟨hc, hs⟩
  · have hocc : cancelReported s.engine = fun k => if k = .commitCancelled then some .none else none := by
      funext k
      simp [cancelReported, hc]
    rw [hs, hocc]
    exact h.report .none hn he rfl
  · have hocc : cancelReported s.engine = fun _ => none := by
      funext k
      simp [cancelReported, hc]
    rw [hs, hocc]
    exact h

/-- The state that a warm reset hands to the engine: every other block reset, the Notice Unit cleared (R191, R197). -/
def resetBlocks (s : State) : State :=
  captureWarmReset (generatorWarmReset (outputsWarmReset (reverbWarmReset (inputsWarmReset
    (handlerWarmReset (ringWarmReset (clearNotices s)))))))

theorem inputsWarmReset_input (s : State) (i : Fin 24) :
    (inputsWarmReset s).inputs[i] = { rebound (activeBank s).inputs[i] s.inputs[i] with invalid := 0 } := by
  unfold inputsWarmReset
  dsimp only
  rw [getElem_changeAll]

theorem resetBlocks_inputs (s : State) :
    (resetBlocks s).inputs = (inputsWarmReset (handlerWarmReset (ringWarmReset (clearNotices s)))).inputs := by
  rw [resetBlocks]
  generalize inputsWarmReset _ = u
  rfl

theorem resetBlocks_input (s : State) (i : Fin 24) :
    (resetBlocks s).inputs[i] = { rebound (activeBank s).inputs[i] s.inputs[i] with invalid := 0 } := by
  rw [resetBlocks_inputs, inputsWarmReset_input]
  rfl

theorem resetBlocks_eq (s : State) :
    resetBlocks s = { s with
      notices := ⟨Vector.replicate 15 false, []⟩
      ring := { s.ring with badFrames := 0, flaggedFrames := 0, lockLosses := 0 }
      pointer := homePointer, badCells := 0
      inputs := (resetBlocks s).inputs, reverb := { s.reverb with lineClips := Vector.replicate 16 0 }
      outputs := Vector.replicate 32 ⟨Config.silence, 0, 0, watchGuard, 0⟩, backoff := ⟨0, 0, 0⟩
      gen := idleGenerator, capture := captureIdle s.capture } := by
  rw [resetBlocks, inputsWarmReset_frame]
  generalize (inputsWarmReset _).inputs = inputs
  rfl

theorem warmReset_eq (s : State) : warmReset s = engineWarmReset (resetBlocks s) := by
  rw [warmReset, resetBlocks]

theorem holdsOnly_warmReset (s : State) :
    HoldsOnly s.ring.frameNumber s.node.enables (cancelReported s.engine) (warmReset s).notices := by
  have hclear : HoldsOnly s.ring.frameNumber s.node.enables (fun _ => none) (resetBlocks s).notices := by
    rw [resetBlocks_eq]
    exact holdsOnly_clearNotices _ _ s
  have hreset := hclear.engineWarmReset (by rw [resetBlocks_eq]) (by rw [resetBlocks_eq])
  rw [warmReset_eq]
  rwa [show (resetBlocks s).engine = s.engine by rw [resetBlocks_eq]] at hreset

/-- The occurrences of a warm reset: its pulse, and the edges of the levels that it moves. -/
def resetReported (s : State) (k : NoticeKind) : Option Edge :=
  if k ∈ levelKinds then edgeReported s (warmReset s) k else cancelReported s.engine k

theorem holdsOnly_edges_warmReset (s : State) :
    HoldsOnly s.ring.frameNumber s.node.enables (resetReported s) (edges s (warmReset s)).notices := by
  refine (holdsOnly_warmReset s).foldl_edgeOf s levelKinds (by decide) ?_ ?_ fun k hk => ?_
  · rw [warmReset_eq, engineWarmReset_frame]
    rfl
  · rw [warmReset_eq, engineWarmReset_frame]
    rfl
  · exact if_neg fun h => by rw [h.1] at hk; exact absurd hk (by decide)

/-- What a warm reset leaves beside the Notice Unit and the marks. -/
theorem warmReset_leaves (s : State) :
    warmReset s = { resetBlocks s with
      engine := engineReset s.engine
      reverb := if s.engine.state = .clearing then
          { s.reverb with lineClips := Vector.replicate 16 0, clearing := true, clearCount := 0 }
        else { s.reverb with lineClips := Vector.replicate 16 0 }
      notices := (warmReset s).notices, marks := (warmReset s).marks } := by
  rw [warmReset_eq, engineWarmReset_frame, engineWarmReset_engine, engineWarmReset_reverb, resetBlocks_eq]

theorem warmReset_missing (s : State) : (warmReset s).marks.missing = s.marks.missing := by
  rw [warmReset_eq, engineWarmReset_missing, resetBlocks_eq]

/-- A warm reset moves neither lock nor store. -/
theorem edgeReported_warmReset_still (s : State) {k : NoticeKind} (hk : k = .ringLocked ∨ k = .storeBusy) :
    edgeReported s (warmReset s) k = none := by
  have hl : levelHigh s k = levelHigh (warmReset s) k := by
    rw [warmReset_leaves, resetBlocks_eq]
    rcases hk with rfl | rfl <;> rfl
  simp [edgeReported, hl]

/-- Beside the edges that a warm reset can cause and its pulse nothing is reported. -/
theorem resetReported_of_other (s : State) {k : NoticeKind}
    (hk : k ∉ [NoticeKind.inputMissing, .guardActive, .backoffActive, .sceneBusy, .commitCancelled]) :
    resetReported s k = none := by
  unfold resetReported
  split
  · next hl =>
    have hstill : k = .ringLocked ∨ k = .storeBusy := by
      revert hk hl
      cases k <;> decide
    exact edgeReported_warmReset_still s hstill
  · exact if_neg fun ⟨hc, _⟩ => hk (by rw [hc]; decide)

theorem resetReported_commitCancelled (s : State) :
    (resetReported s .commitCancelled).isSome = true ↔ cancelsCommit s.engine = true := by
  have hl : NoticeKind.commitCancelled ∉ levelKinds := by decide
  rw [resetReported, if_neg hl]
  cases hc : cancelsCommit s.engine <;> simp [cancelReported, hc]

theorem resetReported_level (s : State) {k : NoticeKind} (hk : k ∈ levelKinds) :
    (resetReported s k).isSome = true ↔ Moves s (warmReset s) k := by
  rw [resetReported, if_pos hk, edgeReported_isSome]

/-- The edge under which an occurrence of a warm reset stands: a rise where the level is then high, no edge for the pulse. -/
theorem resetReported_edge {s : State} {k : NoticeKind} (h : (resetReported s k).isSome = true) :
    resetReported s k = some (if k = .commitCancelled then .none else if levelHigh (warmReset s) k then .rise else .fall) := by
  by_cases hl : k ∈ levelKinds
  · have hc : k ≠ .commitCancelled := fun hc => absurd (hc ▸ hl) (by decide)
    obtain ⟨hw, hm⟩ := (resetReported_level s hl).1 h
    rw [resetReported, if_pos hl, if_neg hc, edgeReported, hw, if_neg hm]
    cases levelHigh (warmReset s) k <;> rfl
  · rw [resetReported, if_neg hl] at h ⊢
    unfold cancelReported at h ⊢
    split at h
    · next hc => simp [hc]
    · exact absurd h (by simp)

/-! ### The settled statement -/

/-- Settles O60: the warm reset is taken apart by `warmReset_leaves`, its occurrences are those of `resetReported` and
no other. -/
theorem warmResetOfEveryBlock : Obligations.WarmReset := by
  unfold Obligations.WarmReset
  intro h s hs
  have hexec : exec (.resetNode h) s = .next (serve h .resetNode s) := by
    rw [exec_request (r := .resetNode) rfl, handle_of_heard _ hs]
  have hserve : serve h .resetNode s = { warmReset s with
      notices := (edges s (warmReset s)).notices, out := (serve h .resetNode s).out } := by
    have hframe : serve h .resetNode s = { edges s (warmReset s) with out := (serve h .resetNode s).out } := rfl
    rw [edges_frame] at hframe
    exact hframe
  have hbooks := holdsOnly_edges_warmReset s
  have hlatched : ∀ k, latched (serve h .resetNode s) k = (resetReported s k).isSome := fun k => by
    rw [hserve]
    exact hbooks.flags k
  have hlevel : ∀ k, levelHigh (serve h .resetNode s) k = levelHigh (warmReset s) k := fun k => by
    rw [hserve]
    cases k <;> rfl
  have hmoves : ∀ k ∈ levelKinds, edgeWaits (warmReset s) k = false →
      (latched (serve h .resetNode s) k = true ↔ levelHigh s k ≠ levelHigh (serve h .resetNode s) k) := fun k hk hw => by
    rw [hlatched, hlevel, resetReported_level s hk, Moves, hw]
    exact and_iff_right rfl
  have hwaits : edgeWaits (warmReset s) .inputMissing = s.marks.missing.isSome := by
    rw [edgeWaits, warmReset_missing]
    rfl
  have hinput := resetBlocks_input s
  have hqueue : (serve h .resetNode s).notices.queue = (edges s (warmReset s)).notices.queue := by rw [hserve]
  have hanswer : h.target = s.node.number → answerCode (serve h .resetNode s) = some .done := fun ht => by
    unfold answerCode serve
    dsimp only
    rw [if_pos ht]
    rfl
  have hleaves := warmReset_leaves s
  rw [resetBlocks_eq] at hleaves
  have hcancelled : latched (serve h .resetNode s) .commitCancelled = true ↔ s.engine.state = .scheduled ∨
      ((s.engine.state = .fadeOut ∨ s.engine.state = .clearing) ∧ ∃ mode, s.engine.operation = .commit mode) := by
    rw [hlatched, resetReported_commitCancelled, cancelsCommit_iff]
  have hlevels : ∀ k ∈ [NoticeKind.guardActive, .backoffActive, .sceneBusy],
      latched (serve h .resetNode s) k = true ↔ levelHigh s k ≠ levelHigh (serve h .resetNode s) k := fun k hk => by
    have hl : k ∈ levelKinds ∧ k ≠ .inputMissing := by
      revert hk
      cases k <;> decide
    exact hmoves k hl.1 (by simp [edgeWaits, hl.2])
  have hentries : ∀ e ∈ (serve h .resetNode s).notices.queue,
      latched (serve h .resetNode s) e.kind = true ∧ e.count = 1 ∧ e.first = s.ring.frameNumber := fun e he => by
    rw [hlatched]
    exact hbooks.entries e (hqueue ▸ he)
  have hqueued : ∀ k : NoticeKind, latched (serve h .resetNode s) k = true →
      ((∃ e ∈ (serve h .resetNode s).notices.queue, e.kind = k) ↔ enabled s.node.enables k
        (if k = .commitCancelled then .none else if levelHigh (serve h .resetNode s) k = true then .rise else .fall) = true) :=
    fun k hk => by
    rw [hqueue, hlevel]
    rw [hlatched] at hk
    exact hbooks.queued k _ (resetReported_edge hk)
  have hmissing := hmoves .inputMissing (by decide)
  have hother : ∀ k : NoticeKind, k ∉ [NoticeKind.inputMissing, .guardActive, .backoffActive, .sceneBusy, .commitCancelled] →
      latched (serve h .resetNode s) k = false := fun k hk => by
    rw [hlatched, resetReported_of_other s hk]
    rfl
  have hwaiting : s.marks.missing.isSome = true → latched (serve h .resetNode s) .inputMissing = false := fun hm => by
    rw [hlatched, Bool.eq_false_iff]
    intro h
    obtain ⟨hw, _⟩ := (resetReported_level s (by decide)).1 h
    rw [hwaits, hm] at hw
    exact absurd hw (by decide)
  rw [hleaves] at hserve
  refine ⟨_, hexec, by rw [hserve], fun i => ?_, by rw [hserve]; rfl, by rw [hserve], by rw [hserve]; rfl, by rw [hserve]; rfl,
    by rw [hserve]; rfl, by rw [hserve], by rw [hserve]; rfl, by rw [hserve], hcancelled, hlevels,
    fun hm => hmissing (by rw [hwaits, hm]; rfl), hwaiting, hother, hentries, hqueued, by rw [hserve], by rw [hserve],
    by rw [hserve], by rw [hserve], by rw [hserve], by rw [hserve], hanswer⟩
  rw [hserve]
  dsimp only
  rw [hinput]
  rfl

end Sys2Proof.Machine
end

section
/-! An error that ends lock (R26, R27, R29): what the lock loss silences stays silent through the rest of its frame period,
in whatever order the free values take the work (log 2). -/

namespace Sys2Proof.Machine

/-! ### What a lock loss silences -/

/-- Every input is unbound or absent (R50). -/
def InputsSilent (v : Vector InputUnit 24) : Prop := ∀ i : Fin 24, v[i].state = .unbound ∨ v[i].state = .absent

/-- Every output current is at 1536 (R115). -/
def OutputsSilent (v : Vector OutputUnit 32) : Prop := ∀ m : Fin 32, v[m].current = 1536

/-- No burst is under way or accepted (R173). -/
def BurstSilent (g : Generator) : Prop := g.running = false ∧ g.next = none

/-- What a lock loss leaves (R29, R50, R115, R146, R173): no lock, every input unbound or absent, every output current at
1536, no burst under way or accepted, no scheduled commit. -/
structure Silenced (s : State) : Prop where
  lock      : s.ring.lock = .unlocked
  inputs    : InputsSilent s.inputs
  outputs   : OutputsSilent s.outputs
  generator : BurstSilent s.gen
  engine    : s.engine.state ≠ .scheduled

/-- The work from `s` to `t` ends no silence. -/
structure LeavesSilence (s t : State) : Prop where
  lock      : s.ring.lock = .unlocked → t.ring.lock = .unlocked := by exact id
  inputs    : InputsSilent s.inputs → InputsSilent t.inputs := by exact id
  outputs   : OutputsSilent s.outputs → OutputsSilent t.outputs := by exact id
  generator : BurstSilent s.gen → BurstSilent t.gen := by exact id
  engine    : s.engine.state ≠ .scheduled → t.engine.state ≠ .scheduled := by exact id

theorem LeavesSilence.refl (s : State) : LeavesSilence s s := {}

theorem LeavesSilence.trans {s t u : State} (h : LeavesSilence s t) (g : LeavesSilence t u) : LeavesSilence s u where
  lock := g.lock ∘ h.lock
  inputs := g.inputs ∘ h.inputs
  outputs := g.outputs ∘ h.outputs
  generator := g.generator ∘ h.generator
  engine := g.engine ∘ h.engine

theorem Silenced.of_leaves {s t : State} (hs : Silenced s) (h : LeavesSilence s t) : Silenced t :=
  ⟨h.lock hs.lock, h.inputs hs.inputs, h.outputs hs.outputs, h.generator hs.generator, h.engine hs.engine⟩

theorem LeavesSilence.foldl {α : Type} {f : State → α → State} (hf : ∀ s a, LeavesSilence s (f s a)) (l : List α) (s : State) :
    LeavesSilence s (l.foldl f s) := by
  induction l generalizing s with
  | nil => exact .refl s
  | cons a l ih => exact (hf s a).trans (ih (f s a))

theorem leavesSilence_inputs (s : State) (v : Vector InputUnit 24) (h : InputsSilent s.inputs → InputsSilent v) :
    LeavesSilence s { s with inputs := v } :=
  { inputs := h }

theorem leavesSilence_outputs (s : State) (v : Vector OutputUnit 32) (b : Backoff)
    (h : OutputsSilent s.outputs → OutputsSilent v) : LeavesSilence s { s with outputs := v, backoff := b } :=
  { outputs := h }

theorem leavesSilence_pulseIf (b : Bool) (k : NoticeKind) (s : State) : LeavesSilence s (pulseIf b k s) := by
  rw [pulseIf_frame]
  exact {}

theorem LeavesSilence.withEdges {f : State → State} {s : State} (h : LeavesSilence s (f s)) :
    LeavesSilence s (withEdges f s) := by
  rw [withEdges_frame]
  exact h.trans {}

/-! #### The engine and the store -/

/-- A change of every output that sets no current above its silence. -/
theorem leavesSilence_changeOutputs (s : State) (b : Backoff) {f : Fin 32 → OutputUnit → OutputUnit}
    (hf : ∀ m u, u.current = 1536 → (f m u).current = 1536) :
    LeavesSilence s { s with outputs := changeAll s.outputs f, backoff := b } :=
  leavesSilence_outputs s _ b fun h m => by
    rw [getElem_changeAll]
    exact hf m _ (h m)

theorem leavesSilence_outputsSwap (s : State) : LeavesSilence s (outputsSwap s) :=
  leavesSilence_changeOutputs s _ fun _ _ h => h

theorem leavesSilence_outputsInstall (s : State) : LeavesSilence s (outputsInstall s) :=
  leavesSilence_changeOutputs s _ fun _ _ _ => rfl

theorem leavesSilence_execute (mode : CommitMode) (s : State) :
    LeavesSilence s (execute mode s) ∧ (execute mode s).engine.state ≠ .scheduled := by
  unfold execute
  split
  · have hswap : LeavesSilence s (swapBanks s) := {}
    have hsteady : ∀ u : State, LeavesSilence u (pulse .commitDone (steadyEngine u)) := fun u => { engine := fun _ => nofun }
    exact ⟨hswap.trans ((leavesSilence_outputsSwap _).trans (hsteady _)), nofun⟩
  · exact ⟨{ generator := fun _ => ⟨rfl, rfl⟩, engine := fun _ => nofun }, nofun⟩

theorem leavesSilence_commitStart (slip : Bool) (s : State) : LeavesSilence s (commitStart slip s) := by
  unfold commitStart executeScheduled
  split
  · split
    · exact (leavesSilence_execute _ s).1
    · exact .refl s
  · exact .refl s

theorem leavesSilence_startUpCommit (s : State) : LeavesSilence s (startUpCommit s) := by
  unfold startUpCommit
  split
  · exact {}
  · exact LeavesSilence.trans (t := beginCommit .auto s) {} (leavesSilence_execute _ _).1

theorem leavesSilence_recallEnd (n : Fin 16) (s : State) : LeavesSilence s (recallEnd n s) := by
  have hr : LeavesSilence s (recallReleased (pulse .storeDone (replacePending n s))) := by
    rw [recallReleased_frame, pulse_frame, replacePending_frame]
    exact {}
  unfold recallEnd
  dsimp only
  split
  · exact hr.trans (leavesSilence_startUpCommit _)
  · exact hr

theorem leavesSilence_operationEnd (s : State) : LeavesSilence s (operationEnd s) := by
  unfold operationEnd
  dsimp only
  split
  · rw [eraseEnd_frame]
    exact {}
  · rw [writeEnd_frame]
    exact {}
  · split
    · exact leavesSilence_recallEnd _ s
    · exact .refl s
  · split
    · exact leavesSilence_recallEnd _ s
    · exact .refl s
  · split
    · rw [rewriteEnd_frame]
      exact {}
    · exact {}
  · exact .refl s

theorem leavesSilence_storeBoundary (s : State) : LeavesSilence s (storeBoundary s) := by
  have hc : LeavesSilence s (countDown s) := {}
  unfold storeBoundary
  dsimp only
  split
  · exact .refl s
  · split
    · exact hc.trans (leavesSilence_operationEnd _)
    · exact hc

theorem leavesSilence_install (s : State) : LeavesSilence s (install s) := by
  have hin : ∀ u : State, LeavesSilence u (inputsInstall u) := fun u =>
    leavesSilence_inputs u _ fun _ i => by
      rw [getElem_changeAll]
      unfold rebound
      dsimp only
      split
      · exact .inr rfl
      · exact .inl rfl
  have hout : ∀ (e : EngineState) (u : State), e ≠ .scheduled →
      LeavesSilence u (setEngine { u.engine with state := e } (outputsInstall (reverbInstall u))) := fun e u he =>
    have hreverb : LeavesSilence u (reverbInstall u) := by
      rw [reverbInstall_frame]
      exact {}
    have hengine : ∀ v : State, LeavesSilence v (setEngine { u.engine with state := e } v) := fun v =>
      { engine := fun _ => he }
    hreverb.trans ((leavesSilence_outputsInstall _).trans (hengine _))
  unfold install
  dsimp only
  split
  · exact LeavesSilence.trans (t := swapBanks s) {} ((hin _).trans (hout .fadeIn _ nofun))
  · exact (hin _).trans (hout .fadeIn _ nofun)
  · exact (hin _).trans (hout .fadeIn _ nofun)

theorem leavesSilence_clearingEnd (s : State) : LeavesSilence s (clearingEnd s) := by
  have hrelease : ∀ u, LeavesSilence u (releaseHeldRecall u) := fun u => by
    unfold releaseHeldRecall
    split
    · exact LeavesSilence.trans (t := { u with marks := { u.marks with store := true } }) {} (leavesSilence_operationEnd _)
    · exact .refl u
  have hend : LeavesSilence s (endClearing s) := {}
  unfold clearingEnd clearingOff clearingComplete
  dsimp only
  split
  · split
    · exact (hend.trans (leavesSilence_install _)).trans (hrelease _)
    · exact hend.trans (hrelease _)
  · exact hrelease s

/-! #### The work of the blocks -/

/-- Where a frame period ends lock, no input takes a sample (R50). -/
theorem leavesSilence_inputsWork {env : Env} (hl : env.loss = true) (boundary : Bool) (s : State) :
    LeavesSilence s (inputsWork env boundary s) :=
  leavesSilence_inputs s _ fun h i => by simpa [nextInput, hl] using h i

theorem leavesSilence_inputsAndCore {env : Env} (hl : env.loss = true) (boundary : Bool) (s : State) :
    LeavesSilence s (inputsAndCore env boundary s) := by
  unfold inputsAndCore
  split
  · next hfirst =>
    have hclear : LeavesSilence s (reverbClear s) := by
      rw [reverbClear_frame]
      exact {}
    rw [samplingState, if_pos hfirst]
    exact hclear.trans ((leavesSilence_clearingEnd _).trans (leavesSilence_inputsWork hl boundary _))
  · have hcore : ∀ (x : Vector Sample 24) (level : Nat) (u : State), LeavesSilence u (reverbWork x level u) := fun x level u => by
      rw [reverbWork_frame]
      exact {}
    exact (leavesSilence_inputsWork hl boundary s).trans (hcore _ _ _)

theorem leavesSilence_outputsWork (q : Vector Sample 32) (core s : State) : LeavesSilence s (outputsWork q core s) := by
  rw [outputsWork_frame]
  have hout : LeavesSilence s { s with outputs := (outputsWork q core s).outputs, backoff := s.backoff } :=
    leavesSilence_outputs s _ _ fun h m => by
      rw [outputsWork_output]
      exact h m
  have hnotices : ∀ (u : State) (n : Notices), LeavesSilence u { u with notices := n } := fun u n => {}
  exact hout.trans (hnotices _ _)

theorem leavesSilence_sampleWork {env : Env} (hl : env.loss = true) (boundary : Bool) (s : State) :
    LeavesSilence s (sampleWork env boundary s) := by
  have hgen : ∀ u, LeavesSilence u (generatorWork u) := fun u =>
    { generator := fun h => by simpa [generatorWork, generatorAdvance, h.1] using h }
  have hrest : ∀ (sent : Vector Sample 32) (v : Sample) (q : Vector Sample 32) (m : Marks → Marks) (u : State),
      LeavesSilence u { quietWork q (captureWork v (handOff sent u)) with
        marks := m (quietWork q (captureWork v (handOff sent u))).marks } := fun sent v q m u => by
    rw [captureWork_frame]
    exact {}
  unfold sampleWork
  exact (leavesSilence_inputsAndCore hl boundary s).trans ((hgen _).trans
    ((leavesSilence_outputsWork _ s _).trans (hrest _ _ _ (fun m => { m with early := false }) _)))

/-- Under lock mute every output stays at its target, 1536 (R97, R115). -/
theorem leavesSilence_outputsRamp (s : State) : LeavesSilence s (outputsRamp true s) := by
  refine leavesSilence_changeOutputs s s.backoff fun m u h => ?_
  have ht : targetUnder true s m = 1536 := by simp [targetUnder, Config.silence]
  dsimp only
  rw [ht, h, rampStep_rest]

theorem leavesSilence_evaluateAt (s : State) (m : Fin 32) : LeavesSilence s (evaluateAt s m) := by
  have hguard : ∀ g, LeavesSilence s (setGuard m g s) := fun g =>
    leavesSilence_outputs s _ s.backoff fun h k => by
      rw [getElem_changeAt]
      split
      · next hk => exact hk ▸ h m
      · exact h k
  have hlimit : ∀ u, LeavesSilence u (guardLimit u) := fun u => {}
  unfold evaluateAt
  split
  · exact .refl s
  · split
    · unfold detectAt
      dsimp only
      split
      · exact (hguard _).trans (hlimit _)
      · exact hguard _
    · exact hguard _

theorem leavesSilence_outputsBoundary (s : State) : LeavesSilence s (outputsBoundary true s) := by
  have hpeaks : LeavesSilence s (blockPeaks s) := leavesSilence_changeOutputs s s.backoff fun _ _ h => h
  have hback : ∀ u, LeavesSilence u (backoffStep u) := fun u => by
    rw [backoffStep_frame]
    exact {}
  have hguards : ∀ u, LeavesSilence u (evaluateGuards u) := fun u =>
    LeavesSilence.foldl leavesSilence_evaluateAt (entries 32) u
  have hengine : ∀ u, LeavesSilence u (engineBoundary true u) := fun u => by
    unfold engineBoundary
    split
    · exact { engine := fun _ => nofun }
    · split
      · unfold fadeInEnd
        exact LeavesSilence.trans
          (t := setEngine { u.engine with state := .steady, operation := .none, owed := false } u)
          { engine := fun _ => nofun } (leavesSilence_pulseIf _ _ _)
      · exact .refl u
  exact hpeaks.trans ((hback _).withEdges.trans ((hguards _).withEdges.trans
    ((leavesSilence_outputsRamp _).trans (hengine _).withEdges)))

theorem leavesSilence_burstOver (s : State) : LeavesSilence s (burstBegin (burstEnd s)) :=
  { generator := fun ⟨hr, hn⟩ => by simp [BurstSilent, burstBegin, burstEnd, hr, hn]
    lock := by rw [burstBegin_frame, burstEnd_frame]; exact id
    inputs := by rw [burstBegin_frame, burstEnd_frame]; exact id
    outputs := by rw [burstBegin_frame, burstEnd_frame]; exact id
    engine := by rw [burstBegin_frame, burstEnd_frame]; exact id }

/-! ### The frame period that ends lock -/

/-- Every task but the event keeps the silence of a lock loss. -/
theorem silenced_runTask {env : Env} (hl : env.loss = true) (boundary : Bool) {k : Task} (hk : k ≠ .event) {s : State}
    (hs : Silenced s) : Silenced (runTask env boundary k s) := by
  cases k with
  | relockEdge =>
    refine hs.of_leaves ?_
    show LeavesSilence s (relockEdge env s)
    unfold relockEdge
    split <;> exact {}
  | commitStart => exact hs.of_leaves (leavesSilence_commitStart env.slip s).withEdges
  | captureStart =>
    refine hs.of_leaves ?_
    show LeavesSilence s (captureStart env.slip s)
    rw [captureStart_frame]
    exact {}
  | decay =>
    refine hs.of_leaves ?_
    show LeavesSilence s (decayBoundary s)
    rw [decayBoundary_frame]
    exact {}
  | ramps =>
    have hin : LeavesSilence s (inputsRamp s) :=
      leavesSilence_inputs s _ fun h i => by
        rw [getElem_changeAll]
        exact h i
    have hcore : ∀ u, LeavesSilence u (reverbRamp u) := fun u => by
      rw [reverbRamp_frame]
      exact {}
    exact hs.of_leaves (hin.trans (hcore _))
  | outputs =>
    have hm : boundaryMute env s = true := by simp [boundaryMute, lockMute, hs.lock]
    show Silenced (outputsBoundary (boundaryMute env s) s)
    rw [hm]
    exact hs.of_leaves (leavesSilence_outputsBoundary s)
  | store => exact hs.of_leaves (leavesSilence_storeBoundary s).withEdges
  | work => exact hs.of_leaves (leavesSilence_sampleWork hl boundary s).withEdges
  | burstEnd => exact hs.of_leaves (leavesSilence_burstOver s)
  | captureEnd =>
    refine hs.of_leaves ?_
    show LeavesSilence s (captureEnd s)
    rw [captureEnd_frame]
    exact {}
  | clearingEnd => exact hs.of_leaves (leavesSilence_clearingEnd s).withEdges
  | missingEdge =>
    refine hs.of_leaves ?_
    show LeavesSilence s (missingEdge s)
    rw [missingEdge_frame]
    exact {}
  | event => exact absurd rfl hk

theorem silenced_lockLoss (s : State) : Silenced (lockLoss s) := by
  have hring : (lockLoss s).ring.lock = .unlocked := by
    rw [lockLoss_ring]
    rfl
  have hin : (lockLoss s).inputs = (inputsLockLoss (ringLockLoss s)).inputs := by
    rw [lockLoss, withEdges_inputs, lockLost, captureLockLoss_frame, engineLockLoss_frame]
    rfl
  have hout : (lockLoss s).outputs = (outputsLockLoss (ringLockLoss s)).outputs := by
    rw [lockLoss, withEdges_outputs, lockLost, captureLockLoss_frame, engineLockLoss_frame]
    rfl
  have hgen : (lockLoss s).gen = { s.gen with running := false, remaining := 0, first := false, next := none } := by
    rw [lockLoss, withEdges_gen, lockLost, captureLockLoss_frame, engineLockLoss_frame]
    rfl
  have heng : ∀ u : State, (engineLockLoss u).engine.state ≠ .scheduled := fun u => by
    unfold engineLockLoss
    split
    · nofun
    · assumption
  refine ⟨hring, fun i => ?_, fun m => ?_, ?_, ?_⟩
  · rw [hin]
    unfold inputsLockLoss
    dsimp only
    rw [getElem_changeAll]
    split
    · next hu => exact .inl hu
    · exact .inr rfl
  · rw [hout]
    unfold outputsLockLoss
    dsimp only
    rw [getElem_changeAll]
    rfl
  · rw [hgen]
    exact ⟨rfl, rfl⟩
  · rw [lockLoss, withEdges_engine, lockLost, captureLockLoss_frame]
    exact heng _

theorem silenced_runTasks {env : Env} (hl : env.loss = true) (boundary : Bool) {ts : List Task} (he : .event ∉ ts)
    {s : State} (hs : Silenced s) : Silenced (runTasks env boundary ts s) := by
  induction ts generalizing s with
  | nil => exact hs
  | cons k ts ih =>
    obtain ⟨hk, hts⟩ := not_or.1 (mt List.mem_cons.2 he)
    exact ih hts (silenced_runTask hl boundary (Ne.symm hk) hs)

/-- In whatever order, a frame period that ends lock leaves what the lock loss silences silent. -/
theorem silenced_framePeriod {env : Env} (hl : env.loss = true) (s : State) : Silenced (framePeriod env s) := by
  unfold framePeriod
  dsimp only
  obtain ⟨before, after, hp, _, ha, _⟩ := plan_around_event (isBoundary (beginPeriod s)) (resetsNode env)
    (Config.taskOrder (beginPeriod s).draws) (Config.eventPoint (beginPeriod s).draws)
  rw [hp, runTasks, List.foldl_append, List.foldl_cons]
  have hevent : ∀ u, takeEvent env u = lockLoss u := fun u => by rw [takeEvent, if_pos hl]
  refine silenced_runTasks hl _ ha ?_
  show Silenced (takeEvent env _)
  rw [hevent]
  exact silenced_lockLoss _

/-- The ring that a frame period which ends lock leaves: the lock loss, and the hand-off line moved on. -/
theorem lossPeriod_ring {env : Env} (hl : env.loss = true) (s : State) : ∃ back,
    (framePeriod env s).ring = { (ringLockLoss s).ring with handFront := s.ring.handBack, handBack := back } := by
  obtain ⟨on, t, before, after⟩ := framePeriod_around_event env s
  have hevent : takeEvent env t = lockLoss t := by rw [takeEvent, if_pos hl]
  rw [hevent] at after
  obtain ⟨b1, h1⟩ := before.ring
  obtain ⟨b2, h2⟩ := after.ring
  rw [lockLoss_ring] at h2
  generalize framePeriod env s = u at *
  have h1 : t.ring = if on then { s.ring with handFront := s.ring.handBack, handBack := b1 } else s.ring := h1
  cases on with
  | true =>
    refine ⟨b1, ?_⟩
    simp only [Bool.not_true, Bool.false_eq_true, if_false, if_true] at h1 h2
    rw [h2]
    unfold ringLockLoss
    rw [h1]
    rfl
  | false =>
    refine ⟨b2, ?_⟩
    simp only [Bool.not_false, Bool.false_eq_true, if_false, if_true] at h1 h2
    rw [h2]
    unfold ringLockLoss
    rw [h1]
    rfl

/-- The arrival that ends lock, from the ring in which its error is counted. -/
theorem lossPeriod_leaves {c : FrameClass} {f : Frame} {s t : State} (hp : PresentRing s t)
    (hl : t.ring.lockLosses = s.ring.lockLosses) :
    let u := ringPeriod c f (arrivalEnv f false false false true)
      (setRing { errorCounted t.ring with frameNumber := nextFrame t.ring.frameNumber } t)
    Silenced u ∧ RingMovedOn s u ∧ u.ring.errors = 0 ∧ u.ring.goodRun = 0 ∧
      u.ring.frameNumber = (s.ring.frameNumber + 1) % 16777216 ∧
      u.ring.lockLosses = min (s.ring.lockLosses + 1) 65535 ∧ u.out.frame = some (forwardUnlocked c f) := by
  have hsilent := silenced_framePeriod (env := arrivalEnv f false false false true) rfl
    (setRing { errorCounted t.ring with frameNumber := nextFrame t.ring.frameNumber } t)
  obtain ⟨back, hr⟩ := lossPeriod_ring (env := arrivalEnv f false false false true) rfl
    (setRing { errorCounted t.ring with frameNumber := nextFrame t.ring.frameNumber } t)
  intro u
  have hu : u = send (forwardUnlocked c f) (framePeriod (arrivalEnv f false false false true)
    (setRing { errorCounted t.ring with frameNumber := nextFrame t.ring.frameNumber } t)) := rfl
  rw [hu]
  generalize framePeriod _ _ = v at *
  have hv : ∀ g, (send g v).ring = v.ring := fun _ => rfl
  refine ⟨⟨hsilent.lock, hsilent.inputs, hsilent.outputs, hsilent.generator, hsilent.engine⟩, ⟨?_, ?_, ?_⟩, ?_, ?_, ?_, ?_, rfl⟩ <;>
    rw [hv, hr]
  · exact hp.back
  · exact hp.signal
  · exact hp.gap
  · rfl
  · rfl
  · exact congrArg nextFrame hp.number
  · exact congrArg bump hl

/-- Settles O32: the lock loss, and its silence through the rest of the frame period. -/
theorem arrivalLosesLock : Obligations.ArrivalLosesLock := by
  intro f s hw hl ht hc
  rw [exec_arrival_of_works hw, arrive_locked hl]
  have hp := presentRing (classify f) s
  have hlast : lastError (present (classify f) s) = true := by
    rw [lastError, decide_eq_true_iff, hp.errors, hp.node]
    exact ht
  have hlosses : (present (classify f) s).ring.lockLosses = s.ring.lockLosses := by cases classify f <;> rfl
  have hleaves := lossPeriod_leaves (c := classify f) (f := f) hp hlosses
  have harrives : lockedArrival (classify f) f (present (classify f) s) =
      ringPeriod (classify f) f (arrivalEnv f false false false true)
        (setRing { errorCounted (present (classify f) s).ring with
          frameNumber := nextFrame (present (classify f) s).ring.frameNumber } (present (classify f) s)) := by
    have hnumber : nextFrame (present (classify f) s).ring.frameNumber = (s.ring.frameNumber + 1) % 16777216 := by
      rw [hp.number]
      rfl
    rcases hc with hc | ⟨hc, hn⟩
    · rw [hc] at hlast ⊢
      rw [lockedArrival, badArrival, hlast]
    · rw [hc] at hlast hnumber ⊢
      rw [lockedArrival, if_neg (fun h => hn (h.trans hnumber)), slipArrival, if_pos hlast]
  rw [harrives]
  obtain ⟨hs, hmoved, he, hg, hn, hlost, ho⟩ := hleaves
  have hcopy : forwardUnlocked (classify f) f = sealFrame (match classify f with
      | .bad => setUpstreamError f
      | .good | .flagged => f) := by
    cases classify f <;> rfl
  exact ⟨_, rfl, hmoved, hs.lock, he, hg, hn, hlost, hs.inputs, hs.outputs, hs.generator.1, hs.engine,
    ho.trans (congrArg some hcopy)⟩

end Sys2Proof.Machine
end

section
/-! The outgoing copy (R30 to R35, R200, R201): what each step of its making does to the words of a frame. -/

namespace Sys2Proof.Machine

/-! ### Bits of words -/

theorem bitOf_eq_getLsbD (w : Word) (k : Nat) : bitOf w k = w.getLsbD k := by
  unfold bitOf field
  rw [BitVec.getLsbD, Nat.testBit_eq_decide_div_mod_eq, Nat.pow_one, beq_eq_decide]

theorem field_eq_extractLsb' (w : Word) (lo n : Nat) : field w lo n = (w.extractLsb' lo n).toNat := by
  rw [field, BitVec.extractLsb'_toNat, Nat.shiftRight_eq_div_pow]

theorem getLsbD_word_two_pow {k : Nat} (hk : k < 32) (j : Nat) : (word (2 ^ k)).getLsbD j = decide (k = j) := by
  rw [word, BitVec.getLsbD_ofNat, Nat.testBit_two_pow]
  by_cases h : k = j
  · subst h
    simp [hk]
  · simp [h]

/-- A marker set in a word leaves every other bit. -/
theorem bitOf_or_two_pow (w : Word) {k : Nat} (hk : k < 32) (j : Nat) :
    bitOf (w ||| word (2 ^ k)) j = (bitOf w j || decide (k = j)) := by
  rw [bitOf_eq_getLsbD, BitVec.getLsbD_or, getLsbD_word_two_pow hk, bitOf_eq_getLsbD]

/-- A marker set above a field leaves the field. -/
theorem field_or_two_pow (w : Word) {k lo n : Nat} (hk : k < 32) (h : lo + n ≤ k) :
    field (w ||| word (2 ^ k)) lo n = field w lo n := by
  rw [field_eq_extractLsb', field_eq_extractLsb']
  congr 1
  apply BitVec.eq_of_getLsbD_eq
  intro i hi
  rw [BitVec.getLsbD_extractLsb', BitVec.getLsbD_extractLsb', BitVec.getLsbD_or, getLsbD_word_two_pow hk]
  have hne : k ≠ lo + i := by omega
  simp [hne]

/-! ### Words of frames -/

theorem wordAt_set (ws : List Word) (n k : Nat) (w : Word) :
    wordAt (ws.set n w) k = if k = n ∧ n < ws.length then w else wordAt ws k := by
  unfold wordAt
  rw [List.getD_eq_getElem?_getD, List.getElem?_set, List.getD_eq_getElem?_getD]
  split
  · next h =>
    subst h
    split <;> simp [*]
  · next h => rw [if_neg fun hx => h hx.1.symm]

theorem wordAt_append_left {ws vs : List Word} {k : Nat} (h : k < ws.length) : wordAt (ws ++ vs) k = wordAt ws k := by
  simp [wordAt, List.getElem?_append_left h]

/-- Frames that agree in the words of their cells have the same cell. -/
theorem cellOf_congr {f g : Frame} (hl : g.length = f.length) (h : ∀ k, 133 ≤ k → k < 147 → wordAt g k = wordAt f k) :
    cellOf g = cellOf f := by
  unfold cellOf
  apply List.ext_getElem
  · simp [hl]
  · intro i h1 h2
    rw [List.getElem_take, List.getElem_drop, List.getElem_take, List.getElem_drop]
    simp only [List.length_take, List.length_drop] at h1 h2
    have hw := h (133 + i) (by omega) (by omega)
    rw [wordAt, wordAt, List.getD_eq_getElem _ _ (by omega), List.getD_eq_getElem _ _ (by omega)] at hw
    exact hw

/-! ### The check -/

theorem checkBit_lt {r b : Nat} : checkBit r b < 65536 := by
  have hm : r * 2 % 65536 < 2 ^ 16 := Nat.mod_lt _ (by decide)
  unfold checkBit
  split
  · exact Nat.xor_lt_two_pow hm (by decide)
  · exact hm

theorem checkWord_lt {r : Nat} (w : Word) (hr : r < 65536) : checkWord r w < 65536 := by
  unfold checkWord
  generalize List.range 32 = l
  induction l generalizing r with
  | nil => exact hr
  | cons i l ih => exact ih checkBit_lt

theorem check_lt (ws : List Word) : check ws < 65536 := by
  have hf : ∀ r < 65536, ws.foldl checkWord r < 65536 := by
    induction ws with
    | nil => exact fun _ h => h
    | cons w ws ih => exact fun r hr => ih _ (checkWord_lt w hr)
  exact hf 65535 (by decide)

/-! #### Sealing -/

theorem length_sealFrame {f : Frame} (h : f.length = 148) : (sealFrame f).length = 148 := by
  simp [sealFrame, checkedWords, h]

/-- Sealing changes no word before the check. -/
theorem wordAt_sealFrame {f : Frame} (h : f.length = 148) {k : Nat} (hk : k < 147) : wordAt (sealFrame f) k = wordAt f k := by
  have hl : k < (checkedWords f).length := by
    simp only [checkedWords, List.length_take]
    omega
  rw [sealFrame, wordAt_append_left hl, checkedWords, wordAt_take hk]

/-- A sealed copy passes its check at the next member (R201). -/
theorem checkCorrect_sealFrame {f : Frame} (h : f.length = 148) : checkCorrect (sealFrame f) = true := by
  have hl : (checkedWords f).length = 147 := by simp [checkedWords, h]
  have hc : checkedWords (sealFrame f) = checkedWords f := List.take_left' hl
  have hw : wordAt (sealFrame f) 147 = word (check (checkedWords f)) := by
    simp [wordAt, sealFrame, hl]
  rw [checkCorrect, hc, hw, field_word _ _ _ (by decide), beq_iff_eq]
  have := check_lt (checkedWords f)
  omega

/-! #### The upstream-error flag -/

theorem length_flagCopy (c : FrameClass) (f : Frame) : (flagCopy c f).length = f.length := by
  cases c <;> simp [flagCopy, setUpstreamError]

/-- The flag stands in word 0. -/
theorem wordAt_flagCopy (c : FrameClass) (f : Frame) {k : Nat} (hk : k ≠ 0) : wordAt (flagCopy c f) k = wordAt f k := by
  cases c
  case bad => rw [flagCopy, setUpstreamError, wordAt_set, if_neg fun h => hk h.1]
  all_goals rfl

theorem frameNumberOf_flagCopy (c : FrameClass) {f : Frame} (h : f.length = 148) :
    frameNumberOf (flagCopy c f) = frameNumberOf f := by
  cases c
  case bad =>
    unfold frameNumberOf
    rw [flagCopy, setUpstreamError, wordAt_set, if_pos ⟨rfl, by omega⟩, field_or_two_pow _ (by decide) (by decide)]
  all_goals rfl

theorem upstreamError_flagCopy (c : FrameClass) {f : Frame} (h : f.length = 148) :
    upstreamError (flagCopy c f) = (upstreamError f || decide (c = .bad)) := by
  cases c
  case bad =>
    unfold upstreamError
    rw [flagCopy, setUpstreamError, wordAt_set, if_pos ⟨rfl, by omega⟩, bitOf_or_two_pow _ (by decide)]
    simp
  all_goals simp [flagCopy]

/-! #### Slots -/

theorem length_writeSlot (f : Frame) (n : Nat) (x : Sample) : (writeSlot f n x).length = f.length := by
  simp [writeSlot]

/-- A slot written changes its own word and the word of its marker. -/
theorem wordAt_writeSlot {f : Frame} (h : f.length = 148) (n : Fin 128) (x : Sample) (k : Nat) :
    wordAt (writeSlot f n.val x) k =
      if k = 1 + n.val / 32 then wordAt f k ||| word (2 ^ (n.val % 32))
      else if k = 5 + n.val then sampleWord x else wordAt f k := by
  have hn := n.isLt
  simp only [writeSlot, wordAt_set, List.length_set]
  by_cases hk : k = 1 + n.val / 32
  · have hlt : 1 + n.val / 32 < f.length := by omega
    rw [if_pos ⟨hk, hlt⟩, if_pos hk, hk]
  · rw [if_neg fun hx => hk hx.1, if_neg hk]
    have hlt : 5 + n.val < f.length := by omega
    simp [hlt]

theorem validMarker_writeSlot {f : Frame} (h : f.length = 148) (n j : Fin 128) (x : Sample) :
    validMarker (writeSlot f n.val x) j.val = (validMarker f j.val || decide (n = j)) := by
  have hn := n.isLt
  have hj := j.isLt
  unfold validMarker
  rw [wordAt_writeSlot h]
  split
  · next hk =>
    rw [bitOf_or_two_pow _ (Nat.mod_lt _ (by decide))]
    congr 2
    rw [eq_iff_iff, Fin.ext_iff]
    omega
  · next hk =>
    have hne : n ≠ j := fun hx => hk (by rw [hx])
    rw [if_neg (by omega)]
    simp [hne]

/-- A fold of slots written for the outputs of a list. -/
theorem slots_foldl (b : Bank) (set : Vector Sample 32) (l : List (Fin 32)) {f : Frame} (h : f.length = 148) :
    let g := l.foldl (fun g m => match b.outputs[m].slot with
      | some n => writeSlot g n.val set[m]
      | none => g) f
    g.length = 148 ∧ (∀ k, k = 0 ∨ 133 ≤ k → wordAt g k = wordAt f k) ∧
      (∀ n : Fin 128, validMarker g n.val = (validMarker f n.val || l.any (fun m => b.outputs[m].slot == some n))) ∧
      (∀ n : Fin 128, (∀ m ∈ l, b.outputs[m].slot ≠ some n) → wordAt g (5 + n.val) = wordAt f (5 + n.val)) ∧
      ∀ (n : Fin 128) (m : Fin 32), m ∈ l → b.outputs[m].slot = some n → (∀ k ∈ l, b.outputs[k].slot = some n → k = m) →
        wordAt g (5 + n.val) = sampleWord set[m] := by
  induction l generalizing f with
  | nil => exact ⟨h, fun _ _ => rfl, fun _ => by simp, fun _ _ => rfl, fun _ _ hm => nomatch hm⟩
  | cons m l ih =>
    rw [List.foldl_cons]
    cases hs : b.outputs[m].slot with
    | none =>
      obtain ⟨hlen, hwords, hmarks, hkept, hown⟩ := ih h
      refine ⟨hlen, hwords, fun n => ?_, fun n hn => hkept n fun k hk => hn k (List.mem_cons_of_mem m hk), fun n k hk hsk hu => ?_⟩
      · rw [hmarks, List.any_cons, hs]
        rfl
      · rcases List.mem_cons.1 hk with rfl | hk
        · rw [hs] at hsk
          cases hsk
        · exact hown n k hk hsk fun j hj => hu j (List.mem_cons_of_mem m hj)
    | some slot =>
      dsimp only
      obtain ⟨hlen, hwords, hmarks, hkept, hown⟩ := ih ((length_writeSlot f slot.val set[m]).trans h)
      have hother : ∀ n : Fin 128, n ≠ slot → wordAt (writeSlot f slot.val set[m]) (5 + n.val) = wordAt f (5 + n.val) := fun n hn => by
        have := slot.isLt
        have hne : n.val ≠ slot.val := fun hx => hn (Fin.ext hx)
        rw [wordAt_writeSlot h, if_neg (by omega), if_neg (by omega)]
      refine ⟨hlen, fun k hk => ?_, fun n => ?_, fun n hn => ?_, fun n k hk hsk hu => ?_⟩
      · have := slot.isLt
        rw [hwords k hk, wordAt_writeSlot h, if_neg (by omega), if_neg (by omega)]
      · rw [hmarks, validMarker_writeSlot h, List.any_cons, hs, Bool.or_assoc]
        congr 2
      · obtain ⟨hm, hl⟩ := List.forall_mem_cons.1 hn
        rw [hkept n hl, hother n fun hx => hm (by rw [hs, hx])]
      · by_cases hin : k ∈ l
        · exact hown n k hin hsk fun j hj => hu j (List.mem_cons_of_mem m hj)
        · have hkm : k = m := (List.mem_cons.1 hk).resolve_right hin
          subst hkm
          obtain rfl : slot = n := Option.some.inj (hs.symm.trans hsk)
          have hno : ∀ j ∈ l, b.outputs[j].slot ≠ some slot := fun j hj hx => hin (hu j (List.mem_cons_of_mem _ hj) hx ▸ hj)
          have := slot.isLt
          rw [hkept slot hno, wordAt_writeSlot h, if_neg (by omega), if_pos rfl]

/-! #### Cells -/

theorem length_cellWords (w0 w1 : Word) (payload : List Word) : (cellWords w0 w1 payload).length = 14 := by
  simp [cellWords, payload12]

theorem withCell_spec {f cell : List Word} (h : f.length = 148) (hc : cell.length = 14) :
    (withCell f cell).length = 148 ∧ cellOf (withCell f cell) = cell ∧
      ∀ k, k < 133 → wordAt (withCell f cell) k = wordAt f k := by
  have h133 : (f.take 133).length = 133 := by simp [h]
  refine ⟨by simp [withCell, h, hc], ?_, fun k hk => ?_⟩
  · rw [cellOf, withCell, List.append_assoc, List.drop_left' h133, List.take_left' hc]
  · rw [withCell, List.append_assoc, wordAt_append_left (by omega), wordAt_take hk]

/-- The cell that R34 or R35 settles, none where the cell leaves as received. -/
def settledCell (node : Nat) (o : Outgoing) : Option (List Word) :=
  match o.answer, o.notice with
  | some a, _ => some (answerCell a)
  | none, some (e, p) => some (noticeCell node e p)
  | none, none => none

theorem settleCell_eq (node : Nat) (o : Outgoing) (f : Frame) :
    settleCell node o f = match settledCell node o with
      | some cell => withCell f cell
      | none => f := by
  unfold settleCell settledCell
  rcases o with ⟨a, n, fr⟩
  cases a with
  | some a => rfl
  | none => cases n <;> rfl

theorem length_settledCell {node : Nat} {o : Outgoing} {cell : List Word} (h : settledCell node o = some cell) :
    cell.length = 14 := by
  unfold settledCell at h
  split at h
  · rw [← Option.some.inj h, answerCell, length_cellWords]
  · rw [← Option.some.inj h, noticeCell, length_cellWords]
  · cases h

/-- Settling the cell touches the words of the cell alone. -/
theorem settleCell_spec (node : Nat) (o : Outgoing) {f : Frame} (h : f.length = 148) :
    (settleCell node o f).length = 148 ∧ cellOf (settleCell node o f) = (settledCell node o).getD (cellOf f) ∧
      ∀ k, k < 133 → wordAt (settleCell node o f) k = wordAt f k := by
  rw [settleCell_eq]
  cases hc : settledCell node o with
  | none => exact ⟨h, rfl, fun _ _ => rfl⟩
  | some cell => exact withCell_spec h (length_settledCell hc)

/-! ### The copy in LOCKED -/

/-- What the copy sent in LOCKED carries, word by word (R30, R31, R34, R35, R201). -/
structure IsForwarded (c : FrameClass) (b : Bank) (set : Vector Sample 32) (cell : Option (List Word)) (f g : Frame) : Prop where
  length  : g.length = 148
  check   : checkCorrect g = true
  number  : frameNumberOf g = frameNumberOf f
  flag    : upstreamError g = (upstreamError f || decide (c = .bad))
  markers : ∀ n : Fin 128, validMarker g n.val = (validMarker f n.val || (entries 32).any (fun m => b.outputs[m].slot == some n))
  others  : ∀ n : Fin 128, (∀ m : Fin 32, b.outputs[m].slot ≠ some n) → wordAt g (5 + n.val) = wordAt f (5 + n.val)
  own     : ∀ (n : Fin 128) (m : Fin 32), b.outputs[m].slot = some n → (∀ k : Fin 32, b.outputs[k].slot = some n → k = m) →
    wordAt g (5 + n.val) = sampleWord set[m]
  cell    : cellOf g = cell.getD (cellOf f)

theorem isForwarded_forwardLocked (c : FrameClass) (b : Bank) (set : Vector Sample 32) (node : Nat) (o : Outgoing) {f : Frame}
    (h : f.length = 148) : IsForwarded c b set (settledCell node o) f (forwardLocked c b set node o f) := by
  obtain ⟨hlen, hwords, hmarks, hkept, hown⟩ := slots_foldl b set (entries 32) h
  have hslots : ∀ m : Fin 32, m ∈ entries 32 := fun m => List.mem_ofFn.2 ⟨m, rfl⟩
  generalize hw : (entries 32).foldl _ f = w at hlen hwords hmarks hkept hown
  have hwf : writeOwnSlots b set f = w := hw
  have hfl : (flagCopy c w).length = 148 := (length_flagCopy c w).trans hlen
  obtain ⟨hsl, hsc, hsw⟩ := settleCell_spec node o hfl
  have hword : ∀ k, k < 133 → wordAt (forwardLocked c b set node o f) k = wordAt (flagCopy c w) k := fun k hk => by
    rw [forwardLocked, hwf, wordAt_sealFrame hsl (by omega), hsw k hk]
  have hword' : ∀ k, k ≠ 0 → k < 133 → wordAt (forwardLocked c b set node o f) k = wordAt w k := fun k h0 hk => by
    rw [hword k hk, wordAt_flagCopy c w h0]
  have hlg : (forwardLocked c b set node o f).length = 148 := by
    rw [forwardLocked, hwf, length_sealFrame hsl]
  constructor
  · exact hlg
  · rw [forwardLocked, hwf, checkCorrect_sealFrame hsl]
  · unfold frameNumberOf
    rw [hword 0 (by decide)]
    exact (frameNumberOf_flagCopy c hlen).trans (congrArg (field · 0 24) (hwords 0 (.inl rfl)))
  · unfold upstreamError
    rw [hword 0 (by decide)]
    refine (upstreamError_flagCopy c hlen).trans ?_
    unfold upstreamError
    rw [hwords 0 (.inl rfl)]
  · intro n
    have := n.isLt
    rw [validMarker, hword' _ (by omega) (by omega)]
    exact hmarks n
  · intro n hn
    have := n.isLt
    rw [hword' _ (by omega) (by omega)]
    exact hkept n fun m _ => hn m
  · intro n m hs hu
    have := n.isLt
    rw [hword' _ (by omega) (by omega)]
    exact hown n m (hslots m) hs fun k _ => hu k
  · have hc : cellOf (forwardLocked c b set node o f) = cellOf (settleCell node o (flagCopy c w)) :=
      cellOf_congr (hlg.trans hsl.symm) fun k _ hk => by
        rw [forwardLocked, hwf, wordAt_sealFrame hsl hk]
    have hw : cellOf (flagCopy c w) = cellOf f := cellOf_congr (hfl.trans h.symm) fun k hk _ => by
      rw [wordAt_flagCopy c w (by omega), hwords k (.inr hk)]
    rw [hc, hsc, hw]

end Sys2Proof.Machine
end

section
/-! The outgoing copy in LOCKED (R30, R31, R34, R35): what its cell becomes in the frame period, and the copy itself (O33). -/

namespace Sys2Proof.Machine

/-! ### The notice queue across the blocks' work -/

/-- Entry `y` is entry `x` with later occurrences of its kind counted (R195). -/
def LaterEntry (x y : NoticeEntry) : Prop :=
  y.kind = x.kind ∧ y.first = x.first ∧ (x.count ≤ 255 → x.count ≤ y.count ∧ y.count ≤ 255)

theorem LaterEntry.refl (x : NoticeEntry) : LaterEntry x x := ⟨rfl, rfl, fun h => ⟨Nat.le_refl _, h⟩⟩

/-- Queue `p` holds the entries of queue `q` in their order, with later occurrences, and perhaps new ones behind them. -/
def LaterQueue (q p : List NoticeEntry) : Prop := ∃ q' new, p = q' ++ new ∧ List.Forall₂ LaterEntry q q'

theorem laterQueue_enqueue (n : Nat) (k : NoticeKind) (e : Edge) {q p : List NoticeEntry} (h : LaterQueue q p) :
    LaterQueue q (enqueue n k e p) := by
  obtain ⟨q', new, rfl, h⟩ := h
  induction h with
  | nil => exact ⟨[], _, rfl, .nil⟩
  | @cons x y q q' hxy h ih =>
    rw [List.cons_append, enqueue]
    split
    · obtain ⟨hk, hf, hc⟩ := hxy
      refine ⟨_ :: q', new, rfl, .cons ⟨hk, hf, fun hx => ?_⟩ h⟩
      obtain ⟨h1, h2⟩ := hc hx
      exact ⟨Nat.le_min.2 ⟨by omega, hx⟩, Nat.min_le_right _ _⟩
    · obtain ⟨p, new', hp, h⟩ := ih
      exact ⟨y :: p, new', by rw [hp, List.cons_append], .cons hxy h⟩

theorem Reports.later {n : Nat} {en : Enables} {q p : List NoticeEntry} (h : Reports n en q p) : LaterQueue q p := by
  induction h with
  | none => exact ⟨q, [], (List.append_nil q).symm, List.forall₂_same.2 fun x _ => .refl x⟩
  | next _ _ _ ih => exact laterQueue_enqueue _ _ _ ih

/-- The oldest entry of a queue and those behind it, after later occurrences. -/
theorem LaterQueue.cons {e : NoticeEntry} {q p : List NoticeEntry} (h : LaterQueue (e :: q) p) :
    ∃ e' p', p = e' :: p' ∧ LaterEntry e e' ∧ ∀ x ∈ q, ∃ y ∈ p', LaterEntry x y := by
  obtain ⟨q', new, rfl, h⟩ := h
  cases h with
  | @cons _ e' _ q' he h =>
    refine ⟨e', q' ++ new, rfl, he, fun x hx => ?_⟩
    obtain ⟨i, hi, rfl⟩ := List.getElem_of_mem hx
    have hi' : i < q'.length := h.length_eq ▸ hi
    exact ⟨q'[i], List.mem_append_left _ (List.getElem_mem hi'), h.get hi hi'⟩

theorem LaterQueue.mem {q p : List NoticeEntry} (h : LaterQueue q p) {x : NoticeEntry} (hx : x ∈ q) :
    ∃ y ∈ p, LaterEntry x y := by
  cases q with
  | nil => cases hx
  | cons e q =>
    obtain ⟨e', p', rfl, he, hq⟩ := h.cons
    rcases List.mem_cons.1 hx with rfl | hx
    · exact ⟨e', List.mem_cons_self, he⟩
    · obtain ⟨y, hy, hl⟩ := hq x hx
      exact ⟨y, List.mem_cons_of_mem _ hy, hl⟩

/-! ### What the frame's cell finds -/

/-- The blocks' work of a part of a frame period keeps pins, node record and lock, and reports only (R195). -/
structure PeriodKeeps (s t : State) : Prop where
  powered  : t.powered = s.powered
  resetPin : t.resetPin = s.resetPin
  node     : t.node = s.node
  lock     : t.ring.lock = s.ring.lock
  out      : t.out = s.out
  reports  : ∃ n, Reports n s.node.enables s.notices.queue t.notices.queue

theorem PeriodWork.periodKeeps {on : Bool} {s t : State} (h : PeriodWork on s t) : PeriodKeeps s t := by
  obtain ⟨sent, h⟩ := h
  have hlock : t.ring.lock = s.ring.lock := by
    rw [h.ring]
    cases on <;> rfl
  cases on <;> exact ⟨h.powered, h.resetPin, h.node, hlock, h.out, _, h.reports⟩

/-! ### What a cell puts on the ring -/

/-- The operation code of a request's cell is read back (R200). -/
theorem kindCode_decodeRequest (cell : List Word) : (decodeRequest cell).kindCode = field (wordAt cell 0) 8 4 := by
  have hact : ∀ op payload, (decodeAct op payload).kindCode = 4 := fun op payload => by
    unfold decodeAct
    dsimp only
    split <;> rfl
  unfold decodeRequest
  dsimp only
  split
  case h_5 h => exact (hact _ _).trans h.symm
  case h_7 => rfl
  all_goals
    next h =>
    rw [h]
    rfl

/-- A request that names the node is answered with its tag and kind; another puts nothing on the ring (R34, R180). -/
theorem out_handle {h : Header} {r : Request} {s : State} (ho : s.out.answer = none) : (handle h r s).out =
    { s.out with answer :=
        if executes h s = true ∧ h.target = s.node.number then some (answerOf h r s (requestOp r s).2) else none } := by
  unfold handle
  cases he : executes h s with
  | true =>
    have hop : (edges s (requestOp r s).1).out = s.out := (edges_out _ _).trans (requestWork_requestOp r s).out
    rw [if_pos rfl, serve]
    dsimp only
    rw [hop]
    simp
  | false => simp [← ho]

/-- A cell that is neither a REQUEST nor IDLE is not the node's to change (R34, R35). -/
theorem takeCell_of_other {f : Frame} (h : 2 ≤ cellKind (cellOf f)) (s : State) : takeCell f s = s := by
  have h1 : cellKind (cellOf f) ≠ 1 := by omega
  have h0 : cellKind (cellOf f) ≠ 0 := by omega
  rw [takeCell, decodeCell, if_neg h1]
  dsimp only
  rw [if_neg h0]

theorem takeCell_of_request {f : Frame} (h : cellKind (cellOf f) = 1) (s : State) :
    takeCell f s = handle (decodeHeader (cellOf f)) (decodeRequest (cellOf f)) s := by
  rw [takeCell, decodeCell, if_pos h]

theorem takeCell_of_idle {f : Frame} (h : cellKind (cellOf f) = 0) (s : State) : takeCell f s = offerIdle s := by
  rw [takeCell, decodeCell, if_neg (by rw [h]; decide)]
  dsimp only
  rw [if_pos h]

/-! ### The arrival and its frame period -/

/-- The frame period of an arrival in LOCKED that keeps lock, or of the one that gains it: its environment and ring. -/
structure LockedPeriod (f : Frame) (s : State) (env : Env) (r : Ring) : Prop where
  arrives : arrive f s = ringPeriod (classify f) f env { s with ring := r, out := ⟨none, none, none⟩ }
  frame   : env.frame = some f
  keeps   : env.loss = false
  usable  : env.usable = true ↔ classify f = .good
  lock    : r.lock = .locked
  front   : r.handFront = s.ring.handFront

theorem present_handFront (c : FrameClass) (s : State) : (present c s).ring.handFront = s.ring.handFront := by
  cases c <;> rfl

theorem lockedPeriod_of_arrival {f : Frame} {s : State}
    (h : s.ring.lock = .locked ∧ (classify f = .bad ∨
          (classify f = .good ∧ frameNumberOf f ≠ (s.ring.frameNumber + 1) % 16777216) →
        s.ring.errors + 1 < s.node.threshold) ∨
      s.ring.lock = .acquiring ∧ classify f = .good ∧ frameNumberOf f = (s.ring.acqRef + 1) % 16777216 ∧
        47 ≤ s.ring.acqRun) : ∃ env r, LockedPeriod f s env r := by
  have hp := presentRing (classify f) s
  have hfront := present_handFront (classify f) s
  have hnext : nextFrame (present (classify f) s).ring.frameNumber = (s.ring.frameNumber + 1) % 16777216 := by
    rw [hp.number]
    rfl
  rcases h with ⟨hl, ht⟩ | ⟨hl, hc, hn, hr⟩
  · have ha := arrive_locked hl f
    cases hc : classify f with
    | good =>
      rw [hc] at hp hnext hfront ha ht
      rw [lockedArrival] at ha
      by_cases hn : frameNumberOf f = nextFrame (present .good s).ring.frameNumber
      · rw [if_pos hn] at ha
        obtain ⟨gl, _⟩ := goodCounted_keeps (present .good s).ring
        have gf : (goodCounted (present .good s).ring).handFront = (present .good s).ring.handFront := by
          unfold goodCounted
          split <;> rfl
        exact ⟨arrivalEnv f true false false false, { goodCounted (present .good s).ring with
            frameNumber := nextFrame (present .good s).ring.frameNumber }, by rw [hc]; exact ha, rfl, rfl, iff_of_true rfl hc,
          gl.trans (hp.lock.trans hl), gf.trans hfront⟩
      · rw [if_neg hn, slipArrival, lastError_eq_false hp (ht (.inr ⟨rfl, fun hx => hn (hx.trans hnext.symm)⟩)),
          if_neg Bool.false_ne_true] at ha
        exact ⟨arrivalEnv f true true false false, { errorCounted (present .good s).ring with frameNumber := frameNumberOf f },
          by rw [hc]; exact ha, rfl, rfl, iff_of_true rfl hc, hp.lock.trans hl, hfront⟩
    | flagged =>
      rw [hc] at hp hnext hfront ha
      exact ⟨arrivalEnv f false false false false, { (present .flagged s).ring with
          frameNumber := nextFrame (present .flagged s).ring.frameNumber }, by rw [hc]; exact ha, rfl, rfl,
        iff_of_false nofun (by rw [hc]; nofun), hp.lock.trans hl, hfront⟩
    | bad =>
      rw [hc] at hp hnext hfront ha ht
      rw [lockedArrival, badArrival, lastError_eq_false hp (ht (.inl rfl))] at ha
      exact ⟨arrivalEnv f false false false false, { errorCounted (present .bad s).ring with
          frameNumber := nextFrame (present .bad s).ring.frameNumber }, by rw [hc]; exact ha, rfl, rfl,
        iff_of_false nofun (by rw [hc]; nofun), hp.lock.trans hl, hfront⟩
  · have ha := arrive_relock hl (by rw [hc]; exact completesRun_good.2 ⟨hn, hr⟩)
    rw [hc] at ha hfront
    exact ⟨arrivalEnv f true false true false, (lockAt (frameNumberOf f) (present .good s)).ring, by rw [hc]; exact ha, rfl, rfl,
      iff_of_true rfl hc, rfl, hfront⟩

/-- What the frame period of such an arrival leaves: the state `t` in which the node meets the cell, and the copy. -/
theorem LockedPeriod.leaves {f : Frame} {s : State} {env : Env} {r : Ring} (h : LockedPeriod f s env r) (hl : f.length = 148) :
    ∃ t g, (arrive f s).out.frame = some g ∧ PeriodKeeps { s with ring := r, out := ⟨none, none, none⟩ } t ∧
      (arrive f s).out = { (takeEvent env t).out with frame := some g } ∧
      (∃ n en, Reports n en (takeEvent env t).notices.queue (arrive f s).notices.queue) ∧
      IsForwarded (classify f) (activeBank s) s.ring.handFront (settledCell s.node.number (takeEvent env t).out) f g := by
  obtain ⟨on, t, before, after⟩ := framePeriod_around_event env { s with ring := r, out := ⟨none, none, none⟩ }
  have hb := before.periodKeeps
  have ha := after.periodKeeps
  rw [h.arrives, ringPeriod]
  dsimp only
  rw [if_neg (by rw [h.keeps]; exact Bool.false_ne_true), ha.out]
  have hcopy := isForwarded_forwardLocked (classify f) (activeBank s) r.handFront s.node.number (takeEvent env t).out hl
  rw [h.front] at hcopy
  refine ⟨t, _, rfl, ⟨hb.powered, hb.resetPin, hb.node, hb.lock, hb.out, hb.reports⟩, ?_, ?_, ?_⟩
  · rw [send, ha.out]
  · obtain ⟨n, hr⟩ := ha.reports
    exact ⟨n, _, hr⟩
  · rw [h.front]
    exact hcopy

/-! ### The settled statement -/

/-- Settles O33: the copy is `forwardLocked` on what the frame's cell has put on the ring. -/
theorem lockedFrameIsForwarded : Obligations.LockedFrameIsForwarded := by
  intro f s hw hl h
  obtain ⟨env, r, hp⟩ := lockedPeriod_of_arrival h
  obtain ⟨t, g, hg, hb, hout, hafter, hcopy⟩ := hp.leaves hl
  have ht : t.out = ⟨none, none, none⟩ := hb.out
  have hreceived : takeEvent env t = t → cellOf g = cellOf f := fun he => by
    rw [hcopy.cell, he, ht]
    rfl
  have hevent : takeEvent env t = if env.usable then takeCell f t else t := by
    rw [takeEvent, hp.keeps, if_neg Bool.false_ne_true, hp.frame]
  have hgood : classify f = .good → takeEvent env t = takeCell f t := fun hc => by rw [hevent, if_pos (hp.usable.2 hc)]
  have hslot : ∀ n : Fin 128, (entries 32).any (fun m => (activeBank s).outputs[m].slot == some n) = true ↔
      ∃ m : Fin 32, (activeBank s).outputs[m].slot = some n := fun n => by
    simp [entries]
  refine ⟨arrive f s, g, exec_arrival_of_works hw f, hg, hcopy.length, hcopy.check, hcopy.number, ?_, fun n m hs hu => ?_,
    fun n hn => ⟨?_, hcopy.others n hn⟩, fun hc => ?_, fun hk => ?_, fun hc hk => ⟨fun hx => ?_, fun hx => ?_⟩,
    fun hc hk => ⟨fun hq he => ?_, fun e q hq hcount => ?_⟩⟩
  · rw [hcopy.flag]
    unfold classify
    cases checkCorrect f <;> cases upstreamError f <;> decide
  · refine ⟨?_, hcopy.own n m hs hu⟩
    rw [hcopy.markers, (hslot n).2 ⟨m, hs⟩, Bool.or_true]
  · rw [hcopy.markers, (Bool.eq_false_iff.2 fun hx => ((hslot n).1 hx).elim hn), Bool.or_false]
  · exact hreceived (by rw [hevent, if_neg (mt hp.usable.1 hc)])
  · refine hreceived ?_
    rw [hevent, takeCell_of_other hk]
    exact ite_self t
  · have hn : (decodeHeader (cellOf f)).target ≠ t.node.number := by
      rw [hb.node]
      exact hx
    rw [hcopy.cell, hgood hc, takeCell_of_request hk, out_handle (by rw [ht]), if_neg fun hq => hn hq.2, ht]
    rfl
  · have hn : (decodeHeader (cellOf f)).target = t.node.number := by
      rw [hb.node]
      exact hx
    have hheard : executes (decodeHeader (cellOf f)) t = true := by
      have hlock : t.ring.lock = .locked := hb.lock.trans hp.lock
      have hpow : t.powered = true := hb.powered.trans hw.powered
      have hpin : t.resetPin = false := hb.resetPin.trans hw.free
      simp [executes, hlock, hpow, hpin, hn]
    have ho : (takeEvent env t).out = ⟨some (answerOf (decodeHeader (cellOf f)) (decodeRequest (cellOf f)) t
        (requestOp (decodeRequest (cellOf f)) t).2), none, none⟩ := by
      rw [hgood hc, takeCell_of_request hk, out_handle (by rw [ht]), if_pos ⟨hheard, hn⟩, ht]
    refine ⟨_, by rw [hout, ho], ?_, ?_, rfl, kindCode_decodeRequest _⟩
    · rw [hcopy.cell, ho]
      rfl
    · rw [← hx]
      exact hn.symm
  · obtain ⟨n, hr⟩ := hb.reports
    have hqt : t.notices.queue = [] := by
      have hr : Reports n s.node.enables s.notices.queue t.notices.queue := hr
      rw [he] at hr
      rw [hr.of_off, hq]
    refine hreceived ?_
    rw [hgood hc, takeCell_of_idle hk, offerIdle, hqt]
  · obtain ⟨n, hr⟩ := hb.reports
    have hr : Reports n s.node.enables s.notices.queue t.notices.queue := hr
    rw [hq] at hr
    obtain ⟨e', q', hqt, ⟨hkind, hfirst, hgrow⟩, hrest⟩ := hr.later.cons
    have ho : offerIdle t = { t with
        notices := { t.notices with queue := q' }, out := ⟨none, some (e', presentState t e'.kind), none⟩ } := by
      rw [offerIdle, hqt]
      dsimp only
      rw [ht]
    have he : takeEvent env t = offerIdle t := by rw [hgood hc, takeCell_of_idle hk]
    obtain ⟨n', en', hr'⟩ := hafter
    refine ⟨e', _, by rw [hout, he, ho], ?_, hkind, hfirst, (hgrow hcount).1, fun x hx => ?_⟩
    · rw [hcopy.cell, he, ho]
      rfl
    · obtain ⟨y, hy, hky, hfy, _⟩ := hrest x hx
      have hq' : (takeEvent env t).notices.queue = q' := by rw [he, ho]
      obtain ⟨z, hz, hkz, hfz, _⟩ := hr'.later.mem (hq'.symm ▸ hy)
      exact ⟨z, hz, hkz.trans hky, hfz.trans hfy⟩

end Sys2Proof.Machine
end

section
/-! The Reverberation Core of a frame period that computes (R56 to R69, R77, R129, R130): what the set check gives of
the active bank, the sums of the rules, and the words that the line writes leave in the pool. -/

namespace Sys2Proof.Machine

/-! ### Sums -/

theorem total_entries {n : Nat} (f : Fin n → Int) : total ((entries n).map f) = ∑ i : Fin n, f i :=
  (Fin.sum_univ_def f).symm

theorem total_append_single (xs : List Int) (x : Int) : total (xs ++ [x]) = total xs + x := by
  show (xs ++ [x]).sum = xs.sum + x
  rw [List.sum_append, List.sum_singleton]

/-- A sum over a run of taps, as a sum over all taps. -/
theorem total_run {n : Nat} (g : Fin n → Int) (first count : Nat) :
    total ((List.range count).map (fun k => if h : first + k < n then g ⟨first + k, h⟩ else 0)) =
      ∑ k : Fin n, if first ≤ k.val ∧ k.val < first + count then g k else 0 := by
  induction count with
  | zero =>
    refine (Finset.sum_eq_zero fun k _ => if_neg ?_).symm
    omega
  | succ count ih =>
    have hsplit : ∀ k : Fin n, (if first ≤ k.val ∧ k.val < first + (count + 1) then g k else 0) =
        (if first ≤ k.val ∧ k.val < first + count then g k else 0) + if k.val = first + count then g k else 0 := fun k => by
      by_cases hk : k.val = first + count
      · rw [if_pos ⟨by omega, by omega⟩, if_neg (by omega), if_pos hk, zero_add]
      · rw [if_neg hk, add_zero]
        congr 1
        rw [eq_iff_iff]
        omega
    have hlast : (∑ k : Fin n, if k.val = first + count then g k else 0) =
        if h : first + count < n then g ⟨first + count, h⟩ else 0 := by
      split
      · next h =>
        have heq : ∀ k : Fin n, (k.val = first + count) = (k = ⟨first + count, h⟩) := fun k => by rw [Fin.ext_iff]
        simp only [heq, Finset.sum_ite_eq', Finset.mem_univ, if_true]
      · next h => exact Finset.sum_eq_zero fun k _ => if_neg (by omega)
    rw [List.range_succ, List.map_append, List.map_singleton, total_append_single, ih, Finset.sum_congr rfl fun k _ => hsplit k,
      Finset.sum_add_distrib, hlast]

/-! ### What the set check gives -/

theorem firstFailure_eq_none {n code : Nat} {fails : Fin n → Bool} (h : firstFailure code fails = none) (i : Fin n) :
    fails i = false := by
  have hi := List.find?_eq_none.1 (Option.map_eq_none_iff.1 h) i (List.mem_finRange i)
  simpa using hi

/-- A bank that passes: used regions lie in the pool, apart from each other, and every tap of a run lies in its line (R129). -/
structure BankPasses (b : Bank) : Prop where
  inside : ∀ j : Fin 16, b.lines[j].length ≠ 0 → b.lines[j].base + b.lines[j].length ≤ 262144
  apart  : ∀ j k : Fin 16, j ≠ k → b.lines[j].length ≠ 0 → b.lines[k].length ≠ 0 →
    b.lines[j].base + b.lines[j].length ≤ b.lines[k].base ∨ b.lines[k].base + b.lines[k].length ≤ b.lines[j].base
  taps   : ∀ (m : Fin 32) (k : Fin 512), b.outputs[m].firstTap ≤ k.val → k.val < b.outputs[m].firstTap + b.outputs[m].tapCount →
    b.taps[k].offset ≤ b.lines[b.taps[k].line].length

theorem lineUsed_iff (b : Bank) (j : Fin 16) : lineUsed b j = true ↔ b.lines[j].length ≠ 0 := by
  rw [lineUsed, bne_iff_ne]

theorem bankPasses {b : Bank} (h : setCheck b = none) : BankPasses b := by
  simp only [setCheck, Option.or_eq_none_iff] at h
  obtain ⟨hl, -, -, ht⟩ := h
  have line : ∀ j, lineOutside b j = false ∧ lineOverlaps b j = false := fun j => by
    have hj := firstFailure_eq_none hl j
    rw [lineFails, Bool.or_eq_false_iff, Bool.or_eq_false_iff] at hj
    exact hj.1
  refine ⟨fun j hj => ?_, fun j k hne hj hk => ?_, fun m k h1 h2 => ?_⟩
  · have ho := (line j).1
    rw [lineOutside, (lineUsed_iff b j).2 hj, Bool.true_and, decide_eq_false_iff_not] at ho
    exact Nat.not_lt.1 ho
  · have ho := (line j).2
    rw [lineOverlaps, (lineUsed_iff b j).2 hj, Bool.true_and, List.any_eq_false] at ho
    have hk' := ho k (List.mem_finRange k)
    rw [(lineUsed_iff b k).2 hk, bne_iff_ne.2 (Ne.symm hne)] at hk'
    simp only [regionsOverlap, Bool.true_and, Bool.and_eq_true, decide_eq_true_eq] at hk'
    omega
  · have hf := firstFailure_eq_none ht k
    have hr : (entries 32).any (fun m => inRun b.outputs[m] k.val) = true :=
      List.any_eq_true.2 ⟨m, List.mem_finRange m, by simpa [inRun] using ⟨h1, h2⟩⟩
    rw [tapFails, hr, Bool.true_and, Bool.or_eq_false_iff, decide_eq_false_iff_not] at hf
    exact Nat.not_lt.1 hf.2

/-! ### The words before the writes -/

section
variable {s : State} (hpos : ∀ j : Fin 16, (activeBank s).lines[j].length ≠ 0 →
  s.reverb.position[j] < (activeBank s).lines[j].length)

include hpos

/-- The line end is the word at the write position (R59). -/
theorem lineEnd_eq (j : Fin 16) : lineEnd s j = lineWordBack s j 0 := by
  unfold lineEnd lineWordBack
  dsimp only
  by_cases hj : (activeBank s).lines[j].length = 0
  · rw [if_pos hj, if_neg (by rw [lineUsed_iff]; exact not_not.2 hj)]
  · rw [if_neg hj, if_pos ((lineUsed_iff _ _).2 hj), poolRead, Nat.sub_zero, Nat.add_mod_right, Nat.mod_eq_of_lt (hpos j hj)]

omit hpos in
/-- The word of a tap lies its offset behind the write position (R59). -/
theorem tapValue_eq {j : Fin 16} {offset : Nat} (h : offset ≤ (activeBank s).lines[j].length) :
    tapValue s j offset = lineWordBack s j offset := by
  unfold tapValue lineWordBack lineWord
  dsimp only
  by_cases hj : (activeBank s).lines[j].length = 0
  · rw [if_pos hj, if_neg (by rw [lineUsed_iff]; exact not_not.2 hj)]
  · have hmod : (((s.reverb.position[j] : Int) - (offset : Int)) % ((activeBank s).lines[j].length : Int)).toNat =
        (s.reverb.position[j] + (activeBank s).lines[j].length - offset) % (activeBank s).lines[j].length := by
      have hcast : ((s.reverb.position[j] + (activeBank s).lines[j].length - offset : Nat) : Int) =
          (s.reverb.position[j] : Int) - (offset : Int) + ((activeBank s).lines[j].length : Int) := by omega
      rw [← Int.add_emod_right, ← hcast, ← Int.natCast_emod, Int.toNat_natCast]
    rw [if_neg hj, if_pos ((lineUsed_iff _ _).2 hj), poolRead, hmod]

/-- The feedback term of a line (R62, R63). -/
theorem feedbackTerm_eq (j : Fin 16) :
    feedbackTerm (activeBank s).globals.order (groupSum s j) = expectedFeedback s j := by
  have hsum : groupSum s j = ∑ k : Fin 16,
      if j.val / (activeBank s).globals.order.size = k.val / (activeBank s).globals.order.size then
        (activeBank s).lines[k].sign.factor * mixSign (j.val % (activeBank s).globals.order.size)
          (k.val % (activeBank s).globals.order.size) * lineWordBack s k 0
      else 0 := by
    unfold groupSum
    dsimp only
    rw [total_entries]
    simp only [sameGroup, beq_iff_eq, lineEnd_eq hpos]
  rw [hsum]
  unfold expectedFeedback feedbackTerm
  dsimp only
  cases (activeBank s).globals.order <;> simp

/-- The sum that a line's write rounds (R64, R66). -/
theorem lineSum_eq {x : Vector Sample 24} {u : Option Frame} (hx : ∀ i : Fin 24, x[i] = expectedInput u s i) (j : Fin 16) :
    lineSum x s.backoff.level s j = expectedLine u s j := by
  unfold lineSum expectedLine
  dsimp only
  rw [total_entries, feedbackTerm_eq hpos]
  simp only [scaled, hx]
  rfl

end

/-- The tap sum of an output (R69). -/
theorem tapSum_eq {s : State} (hb : BankPasses (activeBank s)) (m : Fin 32) : tapSum s m = expectedTaps s m := by
  unfold tapSum expectedTaps
  dsimp only
  rw [total_run fun k : Fin 512 => scaled ((activeBank s).taps[k].sign.factor *
    tapValue s (activeBank s).taps[k].line (activeBank s).taps[k].offset) s.reverb.tapCurrent[k]]
  refine Finset.sum_congr rfl fun k _ => ?_
  split
  · next h => rw [tapValue_eq (hb.taps m k h.1 h.2), scaled]
  · rfl

/-! ### The words after the writes -/

theorem read_poolWrite {p : Cells Sample} (hp : Cells.wf 0 p = true) {a : Nat} (ha : a < 262144) (x : Sample) (b : Nat) :
    Cells.read 0 (poolWrite p a x) b = if b = a then x else Cells.read 0 p b := by
  have hlt : a < Config.poolWords := ha
  rw [poolWrite, if_pos hlt, read_write p hp]

/-- Words of a memory from which a range has been cleared. -/
theorem read_clear (m : Cells Sample) (lo hi a : Nat) :
    Cells.read 0 (Cells.clear m lo hi) a = if lo ≤ a ∧ a < hi then 0 else Cells.read 0 m a := by
  induction m with
  | nil => simp [Cells.clear, Cells.read]
  | cons c m ih =>
    obtain ⟨b, v⟩ := c
    unfold Cells.clear at ih ⊢
    rw [List.filter_cons]
    by_cases hb : lo ≤ b ∧ b < hi
    · rw [if_neg (by simp [hb]), ih]
      by_cases ha : lo ≤ a ∧ a < hi
      · rw [if_pos ha, if_pos ha]
      · have hne : a ≠ b := fun hx => ha (hx ▸ hb)
        rw [if_neg ha, if_neg ha, Cells.read, if_neg hne]
    · have hkept : (!(decide (lo ≤ b) && decide (b < hi))) = true := by
        simp only [Bool.not_eq_true', Bool.and_eq_false_iff, decide_eq_false_iff_not]
        omega
      rw [if_pos hkept, Cells.read, ih, Cells.read]
      by_cases hab : a = b
      · subst hab
        rw [if_pos rfl, if_neg hb, if_pos rfl]
      · rw [if_neg hab, if_neg hab]

/-- The words that writes of some lines at addresses of their own leave in the pool. -/
theorem read_lineWrites {used : Fin 16 → Bool} {address : Fin 16 → Nat} (value : Fin 16 → Sample)
    (hin : ∀ j, used j = true → address j < 262144)
    (hne : ∀ j k, j ≠ k → used j = true → used k = true → address j ≠ address k) (l : List (Fin 16)) (hl : l.Nodup)
    {p : Cells Sample} (hp : Cells.wf 0 p = true) :
    let q := l.foldl (fun p j => if used j then poolWrite p (address j) (value j) else p) p
    (∀ j ∈ l, used j = true → Cells.read 0 q (address j) = value j) ∧
      ∀ a, (∀ j ∈ l, used j = true → a ≠ address j) → Cells.read 0 q a = Cells.read 0 p a := by
  induction l generalizing p with
  | nil => exact ⟨fun _ hj => absurd hj List.not_mem_nil, fun _ _ => rfl⟩
  | cons k l ih =>
    obtain ⟨hk, hl⟩ := List.nodup_cons.1 hl
    have hstep : Cells.wf 0 (if used k then poolWrite p (address k) (value k) else p) = true := by
      split
      · exact wf_poolWrite p hp _ _
      · exact hp
    obtain ⟨hown, hother⟩ := ih hl hstep
    rw [List.foldl_cons]
    refine ⟨fun j hj hu => ?_, fun a ha => ?_⟩
    · rcases List.mem_cons.1 hj with rfl | hj
      · have hfar : ∀ i ∈ l, used i = true → address j ≠ address i := fun i hi hui =>
          hne j i (fun hx => hk (hx ▸ hi)) hu hui
        rw [hother _ hfar, if_pos hu, read_poolWrite hp (hin j hu), if_pos rfl]
      · exact hown j hj hu
    · obtain ⟨hak, hal⟩ := List.forall_mem_cons.1 ha
      rw [hother a hal]
      split
      · next hu => rw [read_poolWrite hp (hin k hu), if_neg (hak hu)]
      · rfl

/-- A write position counted on within its line (R60). -/
theorem position_next {p length : Nat} (h : p < length) : (if p + 1 < length then p + 1 else 0) = (p + 1) % length := by
  split
  · next hl => rw [Nat.mod_eq_of_lt hl]
  · next hl =>
    have he : p + 1 = length := by omega
    rw [he, Nat.mod_self]

/-- The core's fields after a frame period that computes (R60, R66, R67, R82). -/
def reverbComputed (x : Vector Sample 24) (level : Nat) (s : State) : Reverb :=
  { s.reverb with
    pool := (entries 16).foldl (fun p j =>
      if lineUsed (activeBank s) j then
        poolWrite p ((activeBank s).lines[j].base + s.reverb.position[j]) (lineSample x level s j)
      else p) s.reverb.pool
    position := changeAll s.reverb.position (fun j p =>
      if lineUsed (activeBank s) j then (if p + 1 < (activeBank s).lines[j].length then p + 1 else 0) else p)
    lineClips := changeAll s.reverb.lineClips (fun j c => if lineClipped x level s j then bump c else c)
    applied := Vector.ofFn (appliedAttenuation s level)
    lastEnd := Vector.ofFn (lineEnd s) }

theorem reverbCompute_eq (x : Vector Sample 24) (level : Nat) (s : State) : reverbCompute x level s =
    (entries 16).foldl (fun u j => pulseIf (lineClipped x level s j) .clip u) { s with reverb := reverbComputed x level s } :=
  rfl

theorem reverbCompute_reverb (x : Vector Sample 24) (level : Nat) (s : State) :
    (reverbCompute x level s).reverb = reverbComputed x level s := by
  rw [reverbCompute_eq, foldl_frame _ (fun u j => pulseIf_frame _ _ u)]

/-- What the core's work of a frame period leaves where no clearing is under way (R60 to R67, R82). -/
structure CoreComputed (u : Option Frame) (s : State) (r : Reverb) : Prop where
  written   : ∀ j : Fin 16, (activeBank s).lines[j].length ≠ 0 →
    Cells.read 0 r.pool ((activeBank s).lines[j].base + s.reverb.position[j]) = sat (rnd (expectedLine u s j))
  position  : ∀ j : Fin 16, r.position[j] =
    if (activeBank s).lines[j].length ≠ 0 then (s.reverb.position[j] + 1) % (activeBank s).lines[j].length
    else s.reverb.position[j]
  lineClips : ∀ j : Fin 16, r.lineClips[j] =
    if (activeBank s).lines[j].length ≠ 0 ∧ sat (rnd (expectedLine u s j)) ≠ rnd (expectedLine u s j) then
      min (s.reverb.lineClips[j] + 1) 65535
    else s.reverb.lineClips[j]
  words     : ∀ a, (∀ j : Fin 16, (activeBank s).lines[j].length ≠ 0 → a ≠ (activeBank s).lines[j].base + s.reverb.position[j]) →
    Cells.read 0 r.pool a = Cells.read 0 s.reverb.pool a
  applied   : ∀ j : Fin 16, r.applied[j] = min (s.reverb.lineCurrent[j] + s.backoff.level) 1536
  lastEnd   : ∀ j : Fin 16, r.lastEnd[j] = lineWordBack s j 0
  rest      : r = { s.reverb with pool := r.pool, position := r.position, lineClips := r.lineClips, applied := r.applied
                                  lastEnd := r.lastEnd }

/-- A used line's write saturates (R67). -/
def LineClips (u : Option Frame) (s : State) (j : Fin 16) : Prop :=
  (activeBank s).lines[j].length ≠ 0 ∧ sat (rnd (expectedLine u s j)) ≠ rnd (expectedLine u s j)

section
variable {s : State} {u : Option Frame} {x : Vector Sample 24} (hpass : ScenesPass s)
  (hx : ∀ i : Fin 24, x[i] = expectedInput u s i)

include hpass hx

theorem lineClipped_iff (j : Fin 16) : lineClipped x s.backoff.level s j = true ↔ LineClips u s j := by
  rw [lineClipped, Bool.and_eq_true, lineUsed_iff, lineSum_eq hpass.position hx, clips, bne_iff_ne, LineClips]

theorem coreComputed (hp : Cells.wf 0 s.reverb.pool = true) : CoreComputed u s (reverbCompute x s.backoff.level s).reverb := by
  have hb := bankPasses hpass.active
  have hsum := fun j => lineSum_eq hpass.position hx j
  have hclip : ∀ j, lineClipped x s.backoff.level s j = true ↔ (activeBank s).lines[j].length ≠ 0 ∧
      sat (rnd (expectedLine u s j)) ≠ rnd (expectedLine u s j) := fun j => lineClipped_iff hpass hx j
  have haddr : ∀ j, lineUsed (activeBank s) j = true → (activeBank s).lines[j].base + s.reverb.position[j] < 262144 :=
      fun j hj => by
    have hj := (lineUsed_iff _ _).1 hj
    have h1 := hb.inside j hj
    have h2 := hpass.position j hj
    omega
  have hne : ∀ j k, j ≠ k → lineUsed (activeBank s) j = true → lineUsed (activeBank s) k = true →
      (activeBank s).lines[j].base + s.reverb.position[j] ≠ (activeBank s).lines[k].base + s.reverb.position[k] :=
      fun j k hjk hj hk => by
    have hj := (lineUsed_iff _ _).1 hj
    have hk := (lineUsed_iff _ _).1 hk
    have h1 := hb.apart j k hjk hj hk
    have h2 := hpass.position j hj
    have h3 := hpass.position k hk
    omega
  obtain ⟨hown, hother⟩ := read_lineWrites (lineSample x s.backoff.level s) haddr hne (entries 16) (List.nodup_finRange 16) hp
  rw [← reverbCompute_pool x s.backoff.level s] at hown hother
  rw [reverbCompute_reverb] at *
  refine ⟨fun j hj => ?_, fun j => ?_, fun j => ?_, fun a ha => ?_, fun j => ?_, fun j => ?_, ?_⟩
  · rw [hown j (List.mem_finRange j) ((lineUsed_iff _ _).2 hj), lineSample, hsum]
  · unfold reverbComputed
    dsimp only
    rw [getElem_changeAll]
    simp only [lineUsed_iff]
    split
    · next hj => exact position_next (hpass.position j hj)
    · rfl
  · unfold reverbComputed
    dsimp only
    rw [getElem_changeAll]
    simp only [hclip]
    rfl
  · exact hother a fun j _ hj => ha j ((lineUsed_iff _ _).1 hj)
  · simp [reverbComputed, appliedAttenuation, composite, Config.silence]
  · simp [reverbComputed, lineEnd_eq hpass.position]
  · rfl

end

end Sys2Proof.Machine
end

section
/-! The per-sample work of a frame period that is no block boundary and installs nothing: every part of it as the rules'
formulas give it (R41 to R48, R64 to R69, R77, R95, R96, R141, R172, R177). -/

namespace Sys2Proof.Machine

/-! ### Inputs -/

/-- Environment `env` brings frame `f`, and frame `u` where its contents are used, and ends no lock (R33). -/
structure Delivers (env : Env) (f u : Option Frame) : Prop where
  keeps   : env.loss = false
  frame   : env.frame = f
  offered : ∀ r : InputRec, offered env r = arrivedSample u r

theorem delivers_used (g : Frame) (slip relock : Bool) : Delivers (arrivalEnv g true slip relock false) (some g) (some g) where
  keeps := rfl
  frame := rfl
  offered r := by
    unfold offered arrivedSample
    cases r.slot <;> rfl

theorem delivers_unused (g : Frame) (slip relock : Bool) : Delivers (arrivalEnv g false slip relock false) (some g) none where
  keeps := rfl
  frame := rfl
  offered r := by
    unfold offered arrivedSample
    cases r.slot <;> rfl

theorem delivers_oscillator : Delivers oscillatorEnv none none where
  keeps := rfl
  frame := rfl
  offered r := by
    unfold offered arrivedSample
    cases r.slot <;> rfl

/-- A bound input takes its sample at an admission current of 1536 (R41, R42, R44 to R46). -/
theorem takeSample_eq {r : InputRec} (hr : r.slot.isSome = true) (sample : Option Sample) (v : InputUnit) :
    takeSample r 1536 sample v = inputAfter r sample v := by
  have hn : ¬ r.slot.isNone = true := by rw [Option.isNone_iff_eq_none]; exact Option.isSome_iff_ne_none.1 hr
  unfold takeSample
  rw [if_neg hn]
  unfold inputAfter
  cases sample with
  | some x =>
    unfold received
    cases hs : v.state with
    | absent =>
      dsimp only
      split <;> rfl
    | qualifying =>
      dsimp only
      split <;> rfl
    | unbound | admitted => rfl
  | none =>
    unfold missed
    cases hs : v.state with
    | admitted =>
      simp only [substituted]
      split
      · rfl
      · rw [← hs]
        rfl
    | unbound | absent | qualifying => rfl

section
variable {env : Env} {f u : Option Frame} (hd : Delivers env f u)

include hd

theorem nextInput_eq (s : State) (i : Fin 24) : nextInput env false s i =
    if (activeBank s).inputs[i].slot.isSome = true then
      inputAfter (activeBank s).inputs[i] (arrivedSample u (activeBank s).inputs[i]) s.inputs[i]
    else s.inputs[i] := by
  have hc : ∀ first, admissionCurrent first false (activeBank s).globals (activeBank s).inputs[i].attenuation = 1536 :=
    fun first => by cases first <;> rfl
  unfold nextInput
  rw [hd.keeps, if_neg Bool.false_ne_true, hd.offered, hc]
  split
  · next hr => exact takeSample_eq hr _ _
  · next hr =>
    unfold takeSample
    rw [if_pos (by simpa using hr)]

/-- A sample is conditioned where the input was admitted: one admitted now gives 0, at its current of 1536 (R44, R48). -/
theorem inputSample_eq (s : State) (i : Fin 24) : inputSample env false s i = expectedInput u s i := by
  have hzero : ∀ raw : Sample, sat (rnd (scaled raw 1536)) = 0 := fun raw => by
    rw [scaled, factor_silence, Int.natCast_zero, mul_zero]
    decide
  unfold inputSample expectedInput
  rw [hd.keeps, if_neg Bool.false_ne_true, hd.offered, nextInput_eq hd]
  cases hs : (activeBank s).inputs[i].slot with
  | none =>
    have ha : arrivedSample u (activeBank s).inputs[i] = none := by
      unfold arrivedSample
      rw [hs]
      cases u <;> rfl
    unfold conditioned
    rw [ha, hs]
  | some n =>
    rw [Option.isSome_some, if_pos rfl]
    unfold conditioned
    rw [hs]
    cases ha : arrivedSample u (activeBank s).inputs[i] with
    | none => rfl
    | some raw =>
      unfold inputAfter
      cases hst : s.inputs[i].state with
      | unbound => simp only [hst]
      | absent =>
        by_cases hq : (activeBank s).inputs[i].admitCount ≤ 1
        · simpa only [if_pos hq] using hzero raw
        · simp only [if_neg hq]
      | qualifying =>
        by_cases hq : (activeBank s).inputs[i].admitCount ≤ s.inputs[i].qualify + 1
        · simpa only [if_pos hq] using hzero raw
        · simp only [if_neg hq]
      | admitted => rfl

end

/-! ### Outputs and the capture's value -/

section
variable {s : State} (hc : s.marks.clear = false)

include hc

theorem clearingPeriod_eq : clearingPeriod s = s.reverb.clearing := by
  rw [clearingPeriod, hc, Bool.not_false, Bool.and_true]

theorem preTrim_eq (hb : BankPasses (activeBank s)) (m : Fin 32) : preTrim s m = expectedPreTrim s m := by
  rw [preTrim, clearingPeriod_eq hc, tapSum_eq hb, expectedPreTrim]

theorem outputSample_eq (hb : BankPasses (activeBank s)) (m : Fin 32) : outputSample s m = expectedOutput s m := by
  rw [outputSample, preTrim_eq hc hb, scaled, expectedOutput]

theorem sentSample_eq (hb : BankPasses (activeBank s)) (m : Fin 32) :
    sentSample (generatorSamples s.gen) s m = sat (expectedOutput s m + expectedGenerator s m) := by
  rw [sentSample, outputSample_eq hc hb, generatorSamples_eq]

theorem outputClipped_iff (hb : BankPasses (activeBank s)) (m : Fin 32) :
    outputClipped (generatorSamples s.gen) s m = true ↔ OutputClips s m := by
  rw [outputClipped, preTrimClipped, clearingPeriod_eq hc, tapSum_eq hb, outputSample_eq hc hb, generatorSamples_eq]
  simp [clips, OutputClips]

/-- The value of the capture's point (R174). -/
theorem pointValue_eq {env : Env} {f u : Option Frame} (hd : Delivers env f u) (hp : ScenesPass s) (point : CapturePoint) :
    pointValue env (Vector.ofFn (inputSample env false s)) (lineEnds s)
      (Vector.ofFn (sentSample (generatorSamples s.gen) s)) point = expectedPoint f u s point := by
  cases point with
  | input i => simp [pointValue, expectedPoint, inputSample_eq hd]
  | line j => simp [pointValue, expectedPoint, lineEnds, clearingPeriod_eq hc, lineEnd_eq hp.position]
  | output m => simp [pointValue, expectedPoint, sentSample_eq hc (bankPasses hp.active)]
  | slot n =>
    rw [pointValue, hd.frame]
    rfl

end

/-! ### The work in whole -/

/-- Some output clips, or the write of a used line does (R67, R96). -/
def ClipsNow (u : Option Frame) (s : State) : Prop :=
  (∃ m : Fin 32, OutputClips s m) ∨ s.reverb.clearing = false ∧ ∃ j : Fin 16, LineClips u s j

/-- The parts of state `t` that hold what the per-sample work of a frame period forms from state `s`. -/
structure SamplesFormed (u : Option Frame) (s t : State) : Prop where
  inputs   : ∀ i : Fin 24, t.inputs[i] = if (activeBank s).inputs[i].slot.isSome = true then
    inputAfter (activeBank s).inputs[i] (arrivedSample u (activeBank s).inputs[i]) s.inputs[i] else s.inputs[i]
  core     : s.reverb.clearing = false → CoreComputed u s t.reverb
  cleared  : s.reverb.clearing = true → t.reverb = (reverbClear s).reverb
  outputs  : ∀ m : Fin 32, t.outputs[m] = { s.outputs[m] with
    runningPeak := max s.outputs[m].runningPeak (expectedOutput s m).natAbs, clips := t.outputs[m].clips }
  clips    : ∀ m : Fin 32, (OutputClips s m → t.outputs[m].clips = min (s.outputs[m].clips + 1) 65535) ∧
    (¬ OutputClips s m → t.outputs[m].clips = s.outputs[m].clips)
  sent     : ∀ m : Fin 32, t.ring.handBack[m] = sat (expectedOutput s m + expectedGenerator s m)
  engine   : t.engine = { s.engine with quiet := quietNext s s }

/-- State `t` is state `s` after the per-sample work of a frame period that is no block boundary. -/
structure Formed (f u : Option Frame) (s t : State) : Prop extends SamplesFormed u s t where
  ring     : t.ring = { s.ring with handFront := s.ring.handBack, handBack := t.ring.handBack }
  gen      : t.gen = generatorAdvance s.gen
  captured : s.capture.state = .running → t.capture = recorded (expectedPoint f u s s.capture.point) s.capture
  waits    : s.capture.state ≠ .running → t.capture = s.capture
  notices  : Reported False (fun k => k = .clip ∧ ClipsNow u s) s.notices t.notices
  frame    : t = { s with
    ring := t.ring, inputs := t.inputs, reverb := t.reverb, outputs := t.outputs, engine := t.engine, gen := t.gen
    capture := t.capture, notices := t.notices, marks := { s.marks with early := false } }

theorem reported_outputsWork_exactly (q : Vector Sample 32) (core s : State) :
    Reported False (fun k => k = .clip ∧ ∃ m ∈ entries 32, outputClipped q core m = true) s.notices
      (outputsWork q core s).notices :=
  reported_foldl_pulseIf _ .clip _ _ rfl

/-- The core does not read the inputs' units. -/
theorem reverbWork_inputs (x : Vector Sample 24) (level : Nat) (v : Vector InputUnit 24) (s : State) :
    reverbWork x level { s with inputs := v } = { reverbWork x level s with inputs := v } := by
  have hfold : ∀ (b : Fin 16 → Bool) (l : List (Fin 16)) (t : State),
      l.foldl (fun u j => pulseIf (b j) .clip u) { t with inputs := v } =
        { l.foldl (fun u j => pulseIf (b j) .clip u) t with inputs := v } := fun b l => by
    induction l with
    | nil => exact fun _ => rfl
    | cons j l ih =>
      intro t
      rw [List.foldl_cons, List.foldl_cons, ← ih]
      cases b j <;> rfl
  have hclearing : clearingPeriod { s with inputs := v } = clearingPeriod s := rfl
  unfold reverbWork
  rw [hclearing]
  split
  · rfl
  · rw [reverbCompute_eq, reverbCompute_eq]
    exact hfold (lineClipped x level s) (entries 16) { s with reverb := reverbComputed x level s }

section
variable {env : Env} {f u : Option Frame} {s : State} (hd : Delivers env f u) (hc : s.marks.clear = false)
  (hl : s.marks.backoff = s.backoff.level) (hp : ScenesPass s) (hw : Cells.wf 0 s.reverb.pool = true)
  (hn : s.reverb.clearing = true → s.reverb.clearCount < 63)

include hd hc hl hp hw

theorem core_formed :
    let v := reverbWork (Vector.ofFn (inputSample env false s)) (levelUsed s) s
    (s.reverb.clearing = false → CoreComputed u s v.reverb) ∧
      (s.reverb.clearing = true → v.reverb = (reverbClear s).reverb) ∧
      Reported False (fun k => k = .clip ∧ s.reverb.clearing = false ∧ ∃ j : Fin 16, LineClips u s j) s.notices v.notices := by
  have hx : ∀ i : Fin 24, (Vector.ofFn (inputSample env false s))[i] = expectedInput u s i := fun i => by
    simp [inputSample_eq hd]
  have hlevel : levelUsed s = s.backoff.level := by
    unfold levelUsed
    rw [hl]
    exact ite_self _
  rw [hlevel]
  unfold reverbWork
  rw [clearingPeriod_eq hc]
  cases hk : s.reverb.clearing with
  | true =>
    rw [if_pos rfl]
    exact ⟨nofun, fun _ => rfl, (reported_none s.notices).congr (by simp)⟩
  | false =>
    rw [if_neg Bool.false_ne_true]
    refine ⟨fun _ => coreComputed hp hx hw, nofun, ?_⟩
    rw [reverbCompute_eq]
    have hr := reported_foldl_pulseIf (lineClipped (Vector.ofFn (inputSample env false s)) s.backoff.level s) .clip (entries 16)
      { s with reverb := reverbComputed (Vector.ofFn (inputSample env false s)) s.backoff.level s } (n := s.notices) rfl
    refine Reported.congr hr fun k => ?_
    simp only [lineClipped_iff hp hx, entries, List.mem_finRange, true_and]

include hn

/-- The per-sample work off a block boundary, with no clearing about to end. -/
theorem formed_sampleWork : Formed f u s (sampleWork env false s) := by
  obtain ⟨hcore, hcleared, hcoreNotices⟩ := core_formed hd hc hl hp hw
  have hb := bankPasses hp.active
  have hfirst : installsFirst s = false := installsFirst_of_count hn
  have hsampling : samplingState s = s := by
    rw [samplingState, hfirst]
    rfl
  have hcoreFrame := reverbWork_frame (Vector.ofFn (inputSample env false s)) (levelUsed s) s
  have hinputs : inputsAndCore env false s = { reverbWork (Vector.ofFn (inputSample env false s)) (levelUsed s) s with
      inputs := Vector.ofFn (nextInput env false s) } := by
    rw [inputsAndCore, hfirst, if_neg Bool.false_ne_true, inputsWork, reverbWork_inputs]
  have hwork : sampleWork env false s = samplesOver (samplesSent (generatorSamples s.gen)
      (Vector.ofFn (sentSample (generatorSamples s.gen) s)) (expectedPoint f u s s.capture.point)
      (outputsWork (generatorSamples s.gen) s (generatorWork (inputsAndCore env false s)))) := by
    rw [← pointValue_eq hc hd hp]
    unfold sampleWork
    rw [hsampling]
    rfl
  rw [hinputs] at hwork
  generalize reverbWork (Vector.ofFn (inputSample env false s)) (levelUsed s) s = v at *
  have hgen : (generatorWork { v with inputs := Vector.ofFn (nextInput env false s) }).gen = generatorAdvance s.gen := by
    rw [hcoreFrame]
    rfl
  have hworked : generatorWork { v with inputs := Vector.ofFn (nextInput env false s) } = { s with
      inputs := Vector.ofFn (nextInput env false s), reverb := v.reverb, notices := v.notices
      gen := generatorAdvance s.gen } := by
    rw [generatorWork_frame, hgen, hcoreFrame]
  rw [hworked] at hwork
  have hout := outputsWork_outputs (generatorSamples s.gen) s { s with
      inputs := Vector.ofFn (nextInput env false s), reverb := v.reverb, notices := v.notices
      gen := generatorAdvance s.gen }
  have hreported := reported_outputsWork_exactly (generatorSamples s.gen) s { s with
      inputs := Vector.ofFn (nextInput env false s), reverb := v.reverb, notices := v.notices
      gen := generatorAdvance s.gen }
  have hframe := outputsWork_frame (generatorSamples s.gen) s { s with
      inputs := Vector.ofFn (nextInput env false s), reverb := v.reverb, notices := v.notices
      gen := generatorAdvance s.gen }
  have hin : ∀ i : Fin 24, (Vector.ofFn (nextInput env false s))[i] = if (activeBank s).inputs[i].slot.isSome = true then
      inputAfter (activeBank s).inputs[i] (arrivedSample u (activeBank s).inputs[i]) s.inputs[i] else s.inputs[i] := fun i => by
    rw [Fin.getElem_fin, Vector.getElem_ofFn]
    exact nextInput_eq hd s i
  generalize Vector.ofFn (nextInput env false s) = inputs at *
  generalize outputsWork (generatorSamples s.gen) s _ = w at *
  have hunit : ∀ m : Fin 32, w.outputs[m] = { s.outputs[m] with
      runningPeak := max s.outputs[m].runningPeak (magnitude (outputSample s m))
      clips := if outputClipped (generatorSamples s.gen) s m then bump s.outputs[m].clips else s.outputs[m].clips } := fun m => by
    rw [hout, getElem_changeAll]
  have hclips : ∀ m : Fin 32, w.outputs[m].clips =
      if outputClipped (generatorSamples s.gen) s m then bump s.outputs[m].clips else s.outputs[m].clips := fun m => by
    rw [hunit]
  have hquiet : quietAfter (generatorSamples s.gen) w = quietNext s s := by
    rw [quietAfter_eq_quietNext]
    exact quietNext_congr s (fun m => by rw [hunit]) (by rw [hframe])
  have hsent := samplesSent_frame (generatorSamples s.gen) (Vector.ofFn (sentSample (generatorSamples s.gen) s))
    (expectedPoint f u s s.capture.point) w
  rw [hquiet] at hsent
  rw [hwork, hsent]
  have hwr : w.ring = s.ring := by rw [hframe]
  have hwi : w.inputs = inputs := by rw [hframe]
  have hwv : w.reverb = v.reverb := by rw [hframe]
  have hwe : w.engine = s.engine := by rw [hframe]
  have hwg : w.gen = generatorAdvance s.gen := by rw [hframe]
  have hwc : w.capture = s.capture := by rw [hframe]
  unfold samplesOver
  refine ⟨⟨fun i => ?_, fun hk => ?_, fun hk => ?_, fun m => ?_, fun m => ⟨fun hm => ?_, fun hm => ?_⟩, fun m => ?_, ?_⟩,
    ?_, ?_, fun hr => ?_, fun hr => ?_, ?_, ?_⟩ <;> dsimp only
  · rw [hwi, hin]
  · rw [hwv]
    exact hcore hk
  · rw [hwv]
    exact hcleared hk
  · rw [hunit, outputSample_eq hc hb]
    rfl
  · rw [hclips, if_pos ((outputClipped_iff hc hb m).2 hm)]
    rfl
  · rw [hclips, if_neg (mt (outputClipped_iff hc hb m).1 hm)]
  · rw [Fin.getElem_fin, Vector.getElem_ofFn]
    exact sentSample_eq hc hb m
  · rw [hwe]
  · rw [hwr]
  · exact hwg
  · rw [captureWork_running (hwc ▸ hr), hwc]
  · rw [captureWork_waiting (hwc ▸ hr), hwc]
  · refine (hcoreNotices.trans hreported).congr fun k => ?_
    simp only [ClipsNow, outputClipped_iff hc hb, entries, List.mem_finRange, true_and]
    tauto
  · rw [hframe]

end

end Sys2Proof.Machine
end

section
/-! The frame period that is no block boundary (log 2): its tasks come one after another but for its event, which may stand
anywhere among them and changes the Notice Unit and the outgoing cell alone. -/

namespace Sys2Proof.Machine

/-! ### States that form the same samples -/

/-- The per-sample work forms the same from `t` as from `s`. -/
structure SameSamples (s t : State) : Prop where
  bank    : activeBank t = activeBank s
  inputs  : t.inputs = s.inputs
  reverb  : t.reverb = s.reverb
  outputs : t.outputs = s.outputs
  backoff : t.backoff = s.backoff
  gen     : t.gen = s.gen
  engine  : t.engine = s.engine

namespace SameSamples

variable {s t : State} (h : SameSamples s t)

include h

theorem lineWordBack (j : Fin 16) (back : Nat) : lineWordBack t j back = lineWordBack s j back := by
  simp only [Machine.lineWordBack, h.bank, h.reverb]

theorem expectedInput (u : Option Frame) (i : Fin 24) : expectedInput u t i = expectedInput u s i := by
  simp only [Machine.expectedInput, h.bank, h.inputs]

theorem expectedLine (u : Option Frame) (j : Fin 16) : expectedLine u t j = expectedLine u s j := by
  have hf : expectedFeedback t j = expectedFeedback s j := by
    simp only [expectedFeedback, h.bank, h.lineWordBack]
  simp only [Machine.expectedLine, h.bank, h.expectedInput, hf, h.reverb, h.backoff]

theorem expectedTaps (m : Fin 32) : expectedTaps t m = expectedTaps s m := by
  simp only [Machine.expectedTaps, h.bank, h.lineWordBack, h.reverb]

theorem expectedOutput (m : Fin 32) : expectedOutput t m = expectedOutput s m := by
  simp only [Machine.expectedOutput, expectedPreTrim, h.expectedTaps, h.reverb, h.outputs]

theorem expectedGenerator (m : Fin 32) : expectedGenerator t m = expectedGenerator s m := by
  simp only [Machine.expectedGenerator, h.gen]

theorem outputClips (m : Fin 32) : OutputClips t m ↔ OutputClips s m := by
  simp only [OutputClips, h.reverb, h.expectedTaps, h.expectedOutput, h.expectedGenerator]

theorem clipsNow (u : Option Frame) : ClipsNow u t ↔ ClipsNow u s := by
  simp only [ClipsNow, LineClips, h.outputClips, h.reverb, h.bank, h.expectedLine]

theorem expectedPoint (f u : Option Frame) (point : CapturePoint) : expectedPoint f u t point = expectedPoint f u s point := by
  cases point with
  | input i => exact h.expectedInput u i
  | line j => simp only [Machine.expectedPoint, h.reverb, h.lineWordBack]
  | output m => simp only [Machine.expectedPoint, h.expectedOutput, h.expectedGenerator]
  | slot n => rfl

theorem quietNext : quietNext t t = quietNext s s := by
  simp only [Machine.quietNext, h.outputs, h.expectedGenerator, h.engine]

theorem coreComputed {u : Option Frame} {r : Reverb} (hr : CoreComputed u t r) : CoreComputed u s r where
  written := by simpa only [h.bank, h.reverb, h.expectedLine] using hr.written
  position := by simpa only [h.bank, h.reverb] using hr.position
  lineClips := by simpa only [h.bank, h.reverb, h.expectedLine] using hr.lineClips
  words := by simpa only [h.bank, h.reverb] using hr.words
  applied := by simpa only [h.backoff, h.reverb] using hr.applied
  lastEnd := by simpa only [h.lineWordBack] using hr.lastEnd
  rest := by simpa only [h.reverb] using hr.rest

theorem samplesFormed {u : Option Frame} {v : State} (hv : SamplesFormed u t v) : SamplesFormed u s v where
  inputs := by simpa only [h.bank, h.inputs] using hv.inputs
  core hc := h.coreComputed (hv.core (h.reverb.symm ▸ hc))
  cleared hc := by
    rw [hv.cleared (h.reverb.symm ▸ hc)]
    unfold reverbClear
    dsimp only
    rw [h.reverb]
  outputs := by simpa only [h.outputs, h.expectedOutput] using hv.outputs
  clips := by simpa only [h.outputs, h.outputClips] using hv.clips
  sent := by simpa only [h.expectedOutput, h.expectedGenerator] using hv.sent
  engine := by rw [hv.engine, h.quietNext, h.engine]

end SameSamples

/-! ### The order of the tasks -/

/-- How far the tasks of a frame period that is no block boundary have come. -/
inductive Phase where
  | begun
  | started
  | worked
  | over
  | recorded
  | closed
deriving DecidableEq

/-- The phase after a task at its turn. -/
def Phase.next : Phase → Task → Option Phase
  | p, .relockEdge => some p
  | .begun, .commitStart => some .begun
  | .started, .commitStart => some .started
  | .begun, .captureStart => some .started
  | .started, .work => some .worked
  | .worked, .burstEnd => some .over
  | .over, .captureEnd => some .recorded
  | .recorded, .clearingEnd => some .recorded
  | .recorded, .missingEdge => some .closed
  | _, _ => none

/-- The phase after a list of tasks, each at its turn. -/
def Phase.follows : Phase → List Task → Option Phase
  | p, [] => some p
  | p, k :: ts => (p.next k).bind fun q => q.follows ts

theorem Phase.follows_append (p : Phase) (ts us : List Task) :
    p.follows (ts ++ us) = (p.follows ts).bind fun q => q.follows us := by
  induction ts generalizing p with
  | nil => rfl
  | cons k ts ih =>
    rw [List.cons_append, Phase.follows, Phase.follows]
    cases p.next k with
    | none => rfl
    | some q => exact ih q

/-- The tasks of a frame period that is no block boundary, its event aside, come at their turns. -/
theorem follows_tasks (n : Nat) : Phase.begun.follows
    (.relockEdge :: starts n ++ middle false n ++ [.burstEnd, .captureEnd, .clearingEnd, .missingEdge]) = some .closed := by
  unfold starts
  split <;> rfl

/-- The plan of such a frame period stands around its event, and both sides of it come at their turns. -/
theorem plan_follows (resets : Bool) (n e : Nat) : ∃ before after q, plan false resets n e = before ++ .event :: after ∧
    Phase.begun.follows before = some q ∧ q.follows after = some .closed := by
  unfold plan
  dsimp only
  have hf := follows_tasks n
  generalize Task.relockEdge :: starts n ++ middle false n ++ [.burstEnd, .captureEnd, .clearingEnd, .missingEdge] = ts at *
  generalize e % _ = j
  rw [← List.take_append_drop j ts, Phase.follows_append, Option.bind_eq_some_iff] at hf
  obtain ⟨q, hb, ha⟩ := hf
  exact ⟨ts.take j, ts.drop j, q, rfl, hb, ha⟩

/-- The samples are formed. -/
def Phase.formed : Phase → Bool
  | .begun | .started => false
  | .worked | .over | .recorded | .closed => true

/-! ### The parts that move with the phase -/

/-- The generator: its sample taken, then its burst over (R171, R172). -/
def generatorAt (s : State) : Phase → Generator
  | .begun | .started => s.gen
  | .worked => generatorAdvance s.gen
  | .over | .recorded | .closed => (burstBegin (burstEnd { s with gen := generatorAdvance s.gen })).gen

/-- A capture that runs in the frame period (R176). -/
def runningCapture (c : Capture) : Capture :=
  { c with
    state := .running
    scheduled := if c.state = .armed then none else c.scheduled
    triggered := if c.state = .armed then false else c.triggered }

/-- A capture whose wanted length is reached is DONE (R177). -/
def endedCapture (c : Capture) : Capture := if c.wanted ≤ c.captured then { c with state := .done } else c

/-- The capture of a frame period that records value `v` (R176, R177). -/
def captureAt (v : Sample) (c : Capture) : Phase → Capture
  | .begun => c
  | .started => runningCapture c
  | .worked | .over => recorded v (runningCapture c)
  | .recorded | .closed => endedCapture (recorded v (runningCapture c))

/-- The occurrences so far. -/
def Occurring (n : Nat) (u : Option Frame) (s : State) (p : Phase) (t : State) : NoticeKind → Prop
  | .clip => p.formed = true ∧ ClipsNow u s
  | .captureDone => (p = .recorded ∨ p = .closed) ∧ CaptureRuns n s ∧ s.capture.wanted ≤ s.capture.captured + 1
  | .inputMissing => p = .closed ∧ inputMissing s ≠ inputMissing t
  | _ => False

/-- A frame period of number `n` in state `s` with ring `r` that is no block boundary. Where `p`, its cell is an IDLE cell;
otherwise it asks nothing of the node. -/
structure QuietPeriod (env : Env) (f u : Option Frame) (r : Ring) (n : Nat) (p : Prop) (s : State) : Prop where
  delivers : Delivers env f u
  relock   : env.relock = false
  slip     : env.slip = true ↔ Slipped n s
  number   : r.frameNumber = n
  lock     : r.lock = s.ring.lock
  idle     : p → ∀ t, t.node = s.node → takeEvent env t = offerIdle t
  quiet    : ¬ p → ∀ t, t.node = s.node → takeEvent env t = t
  commit   : s.engine.state = .scheduled → ∀ frame, s.engine.scheduled = some frame → ¬ FrameReached frame n s
  held     : s.engine.state = .fadeIn → recallReason s = true → s.store.count ≠ 0
  clearing : s.reverb.clearing = true → s.reverb.clearCount < 63

/-- State `t` of such a frame period, its tasks having come to phase `ph`; where `e`, its event is behind it. -/
structure PhaseAt (f u : Option Frame) (r : Ring) (n : Nat) (p : Prop) (s : State) (ph : Phase) (e : Bool)
    (t : State) : Prop where
  frame    : t = { s with
    started := true, ring := t.ring, inputs := t.inputs, reverb := t.reverb, outputs := t.outputs, engine := t.engine
    gen := t.gen, capture := t.capture, notices := t.notices, out := t.out, marks := t.marks, draws := t.draws }
  ring     : ph.formed = false → t.ring = r
  handed   : ph.formed = true → t.ring = { r with handFront := r.handBack, handBack := t.ring.handBack }
  unformed : ph.formed = false → t.inputs = s.inputs ∧ t.reverb = s.reverb ∧ t.outputs = s.outputs ∧ t.engine = s.engine
  formed   : ph.formed = true → SamplesFormed u s t
  marks    : ph.formed = false → t.marks.capture = false ∧ t.marks.clear = false ∧ t.marks.backoff = s.backoff.level
  gen      : t.gen = generatorAt s ph
  captures : CaptureRuns n s → t.capture = captureAt (expectedPoint f u s s.capture.point) s.capture ph
  waits    : ¬ CaptureRuns n s → t.capture = s.capture
  level    : ph ≠ .closed → t.marks.missing = some (inputMissing s)
  notices  : Reported (e = true ∧ p) (Occurring n u s ph t) s.notices t.notices
  answer   : t.out.answer = none
  notice   : ¬ (e = true ∧ p) → t.out.notice = none

section
variable {env : Env} {f u : Option Frame} {r : Ring} {n : Nat} {p : Prop} {s t : State} {ph : Phase} {e : Bool}

theorem phaseAt_begin (s : State) (r : Ring) : PhaseAt f u r n p s .begun false
    (beginPeriod { s with ring := r, out := ⟨none, none, none⟩ }) where
  frame := rfl
  ring _ := rfl
  handed := nofun
  unformed _ := ⟨rfl, rfl, rfl, rfl⟩
  formed := nofun
  marks _ := ⟨rfl, rfl, rfl⟩
  gen := rfl
  captures _ := rfl
  waits _ := rfl
  level _ := rfl
  notices := ((reported_none s.notices).congr fun k => by cases k <;> simp [Occurring, Phase.formed]).offered_iff (by simp)
  answer := rfl
  notice _ := rfl

/-- Before the per-sample work the state forms the samples of the state before the frame period. -/
theorem PhaseAt.sameSamples (h : PhaseAt f u r n p s ph e t) (hf : ph.formed = false) (hg : generatorAt s ph = s.gen) :
    SameSamples s t := by
  obtain ⟨hi, hr, ho, he⟩ := h.unformed hf
  have hb : activeBank t = activeBank s := by
    rw [h.frame]
    rfl
  have hk : t.backoff = s.backoff := by rw [h.frame]
  exact ⟨hb, hi, hr, ho, hk, h.gen.trans hg, he⟩

theorem PhaseAt.after_commitStart (hq : QuietPeriod env f u r n p s) (h : PhaseAt f u r n p s ph e t)
    (hf : ph.formed = false) : withEdges (commitStart env.slip) t = t := by
  refine commitStart_of_not_due ?_
  obtain ⟨-, -, -, he⟩ := h.unformed hf
  have hn : t.ring.frameNumber = n := by rw [h.ring hf, hq.number]
  unfold commitDue
  rw [he, hn]
  split
  · next f hs hf =>
    rw [← Bool.not_eq_true]
    exact fun hx => hq.commit hs f hf ((frameReached_iff hq.slip).1 hx)
  · rfl

/-- The formed samples stand where the parts that hold them do. -/
theorem SamplesFormed.congr {v : State} (h : SamplesFormed u s t) (hi : v.inputs = t.inputs) (hv : v.reverb = t.reverb)
    (ho : v.outputs = t.outputs) (hr : v.ring = t.ring) (he : v.engine = t.engine) : SamplesFormed u s v :=
  ⟨hi ▸ h.inputs, hv ▸ h.core, hv ▸ h.cleared, ho ▸ h.outputs, ho ▸ h.clips, hr ▸ h.sent, he ▸ h.engine⟩

theorem runningCapture_of_running {c : Capture} (h : c.state = .running) : runningCapture c = c := by
  obtain ⟨state, _, _, _, _, _, _, _⟩ := c
  obtain rfl : state = .running := h
  rfl

theorem PhaseAt.after_captureStart (hq : QuietPeriod env f u r n p s) (h : PhaseAt f u r n p s .begun e t) :
    PhaseAt f u r n p s .started e (captureStart env.slip t) := by
  have hc : t.capture = s.capture := by
    by_cases hr : CaptureRuns n s
    · exact h.captures hr
    · exact h.waits hr
  have hdue := captureDue_iff hq.slip hc (h.marks rfl).1 (by rw [h.ring rfl, hq.number])
  have hstart : (captureStart env.slip t).capture = if captureDue env.slip t = true then
      { s.capture with state := .running, scheduled := none, triggered := false } else s.capture := by
    unfold captureStart
    split
    · rw [← hc]
      rfl
    · exact hc
  have hruns : CaptureRuns n s → (captureStart env.slip t).capture = runningCapture s.capture := fun hr => by
    rw [hstart]
    by_cases hrun : s.capture.state = .running
    · rw [if_neg fun hd => (hdue.1 hd).1 hrun, runningCapture_of_running hrun]
    · have harmed : s.capture.state = .armed := (hr.resolve_left hrun).1
      rw [if_pos (hdue.2 ⟨hrun, hr⟩), runningCapture, if_pos harmed, if_pos harmed]
  have hwaits : ¬ CaptureRuns n s → (captureStart env.slip t).capture = s.capture := fun hr => by
    rw [hstart, if_neg fun hd => hr (hdue.1 hd).2]
  rw [captureStart_frame]
  generalize (captureStart env.slip t).capture = c at *
  have hno : Reported (e = true ∧ p) (Occurring n u s .started { t with capture := c }) s.notices t.notices :=
    h.notices.congr fun k => by cases k <;> simp [Occurring, Phase.formed]
  exact { h with
    frame := by
      conv_lhs => rw [h.frame]
    formed := nofun
    captures := hruns
    waits := hwaits
    level := fun _ => h.level nofun
    notices := hno }

/-- Inside the frame period the edges of the per-sample work wait: it moves INPUT_MISSING alone. -/
theorem edges_formed {v : State} (hm : v.marks.missing.isSome = true) (hv : Formed f u t v) : edges t v = v := by
  have hg : guardActive v = guardActive t := by
    rw [Bool.eq_iff_iff, guardActive_iff, guardActive_iff]
    exact exists_congr fun m => by rw [hv.outputs m]
  have hb : v.backoff = t.backoff := by rw [hv.frame]
  have hl : v.ring.lock = t.ring.lock := by rw [hv.ring]
  have hs : v.store = t.store := by rw [hv.frame]
  have he : v.engine.state = t.engine.state := by rw [hv.engine]
  refine edges_still t v fun k _ hk => ?_
  rw [moves_iff hm hl hs, hg, hb, he] at hk
  simp at hk

theorem PhaseAt.after_work (hq : QuietPeriod env f u r n p s) (hp : ScenesPass s) (hw : Cells.wf 0 s.reverb.pool = true)
    (h : PhaseAt f u r n p s .started e t) : PhaseAt f u r n p s .worked e (withEdges (sampleWork env false) t) := by
  have same := h.sameSamples rfl rfl
  obtain ⟨-, hclear, hlevel⟩ := h.marks rfl
  have hpend : pendingBank t = pendingBank s := by
    rw [h.frame]
    rfl
  have hreason : engineReason t = engineReason s := by
    unfold engineReason
    rw [same.engine]
  have hpass : ScenesPass t := by
    refine ⟨same.bank ▸ hp.active, ?_, ?_⟩
    · rw [same.bank, same.reverb]
      exact hp.position
    · rw [hreason, same.engine, hpend]
      exact hp.pending
  have formed := formed_sampleWork hq.delivers hclear (same.backoff.symm ▸ hlevel) hpass (same.reverb.symm ▸ hw)
    (same.reverb.symm ▸ hq.clearing)
  have hmissing : (sampleWork env false t).marks.missing = some (inputMissing s) := by
    rw [formed.frame]
    exact h.level nofun
  rw [withEdges, edges_formed (by rw [hmissing]; rfl) formed]
  generalize sampleWork env false t = v at *
  have hring := h.ring rfl
  have hruns : CaptureRuns n s → v.capture = captureAt (expectedPoint f u s s.capture.point) s.capture .worked := fun hr => by
    have hc := h.captures hr
    rw [formed.captured (by rw [hc]; rfl), same.expectedPoint, hc]
    rfl
  have hwaits : ¬ CaptureRuns n s → v.capture = s.capture := fun hr => by
    have hc := h.waits hr
    rw [formed.waits fun hx => hr (.inl (hc ▸ hx)), hc]
  refine ⟨?_, nofun, fun _ => ?_, nofun, fun _ => same.samplesFormed formed.toSamplesFormed, nofun, ?_, hruns, hwaits,
    fun _ => hmissing, ?_, ?_, fun hx => ?_⟩
  · rw [formed.frame]
    conv_lhs => rw [h.frame]
  · rw [formed.ring, hring]
  · rw [formed.gen, same.gen]
    rfl
  · refine (h.notices.trans formed.notices).congr fun k => ?_
    rw [same.clipsNow]
    cases k <;> simp [Occurring, Phase.formed]
  · rw [formed.frame]
    exact h.answer
  · rw [formed.frame]
    exact h.notice hx

theorem PhaseAt.after_burst (h : PhaseAt f u r n p s .worked e t) :
    PhaseAt f u r n p s .over e (burstBegin (burstEnd t)) := by
  have hg : (burstBegin (burstEnd t)).gen = generatorAt s .over := by
    have hov : ∀ a b : State, a.gen = b.gen → (burstBegin (burstEnd a)).gen = (burstBegin (burstEnd b)).gen := fun a b hab => by
      unfold burstBegin burstEnd
      rw [hab]
      split <;> split <;> simp_all
    exact hov t { s with gen := generatorAdvance s.gen } h.gen
  have hf : burstBegin (burstEnd t) = { t with gen := (burstBegin (burstEnd t)).gen } := by
    rw [burstBegin_frame, burstEnd_frame]
  rw [hf, hg]
  exact { h with
    frame := by
      conv_lhs => rw [h.frame]
    ring := nofun
    unformed := nofun
    marks := nofun
    formed := fun _ => (h.formed rfl).congr rfl rfl rfl rfl rfl
    gen := rfl
    level := fun _ => h.level nofun
    notices := h.notices.congr fun k => by cases k <;> simp [Occurring, Phase.formed, inputMissing] }

theorem PhaseAt.after_captureEnd (h : PhaseAt f u r n p s .over e t) : PhaseAt f u r n p s .recorded e (captureEnd t) := by
  have hn := reported_captureEnd t
  have hcap : (captureEnd t).capture =
      if t.capture.state = .running ∧ t.capture.wanted ≤ t.capture.captured then { t.capture with state := .done }
      else t.capture := by
    unfold captureEnd
    split <;> rfl
  have hruns : CaptureRuns n s →
      (captureEnd t).capture = captureAt (expectedPoint f u s s.capture.point) s.capture .recorded := fun hr => by
    rw [hcap, h.captures hr]
    simp [captureAt, endedCapture, recorded, runningCapture]
  have hwaits : ¬ CaptureRuns n s → (captureEnd t).capture = s.capture := fun hr => by
    rw [hcap, h.waits hr, if_neg fun hx => hr (.inl hx.1)]
  have hdone : (t.capture.state = .running ∧ t.capture.wanted ≤ t.capture.captured) ↔
      CaptureRuns n s ∧ s.capture.wanted ≤ s.capture.captured + 1 := by
    by_cases hr : CaptureRuns n s
    · rw [h.captures hr]
      simp [captureAt, recorded, runningCapture, hr]
    · rw [h.waits hr]
      simp only [hr, false_and, iff_false, not_and]
      exact fun hx => absurd (.inl hx) hr
  have hf := captureEnd_frame t
  generalize captureEnd t = v at *
  have hno : Reported (e = true ∧ p) (Occurring n u s .recorded v) s.notices v.notices :=
    (h.notices.trans hn).congr fun k => by
      rw [hdone]
      cases k <;> simp [Occurring, Phase.formed]
  rw [hf] at hno ⊢
  exact { h with
    frame := by
      conv_lhs => rw [h.frame]
    ring := nofun
    unformed := nofun
    marks := nofun
    formed := fun _ => (h.formed rfl).congr rfl rfl rfl rfl rfl
    gen := h.gen
    captures := hruns
    waits := hwaits
    level := fun _ => h.level nofun
    notices := hno }

/-- The clearing's count of frame periods stays short of its end. -/
theorem PhaseAt.clearing_short (hq : QuietPeriod env f u r n p s) (h : PhaseAt f u r n p s .recorded e t)
    (hc : t.reverb.clearing = true) : t.reverb.clearCount < 64 := by
  have formed := h.formed rfl
  cases hs : s.reverb.clearing with
  | false =>
    rw [(formed.core hs).rest] at hc
    exact absurd (hs.symm.trans hc) (by decide)
  | true =>
    rw [formed.cleared hs]
    exact Nat.succ_lt_succ (hq.clearing hs)

theorem PhaseAt.after_clearingEnd (hq : QuietPeriod env f u r n p s) (h : PhaseAt f u r n p s .recorded e t) :
    withEdges clearingEnd t = t := by
  have hover : clearingOver t = false := by
    unfold clearingOver
    cases hc : t.reverb.clearing with
    | false => rfl
    | true => exact decide_eq_false (Nat.not_le.2 (h.clearing_short hq hc))
  have hstore : t.store = s.store := by rw [h.frame]
  have hrecall : recallReason t = recallReason s := by rw [recallReason, recallReason, hstore]
  have hheld : ¬ (recallReason t = true ∧ t.store.count = 0 ∧ t.engine.state = .fadeIn) := by
    rw [hrecall, hstore, (h.formed rfl).engine]
    exact fun ⟨hr, hc, he⟩ => hq.held he hr hc
  have hend : clearingEnd t = t := by
    rw [clearingEnd, clearingOff, hover, if_neg Bool.false_ne_true, releaseHeldRecall, if_neg hheld]
  rw [withEdges, hend]
  exact edges_same t t fun _ _ => rfl

theorem PhaseAt.after_missingEdge (h : PhaseAt f u r n p s .recorded e t) : PhaseAt f u r n p s .closed e (missingEdge t) := by
  obtain ⟨hf, hn⟩ := missingEdge_of_some (h.level nofun)
  generalize missingEdge t = v at *
  have hi : inputMissing v = inputMissing t := by
    rw [hf]
    rfl
  have hno : Reported (e = true ∧ p) (Occurring n u s .closed v) s.notices v.notices :=
    (h.notices.trans hn).congr fun k => by cases k <;> simp [Occurring, Phase.formed, hi]
  rw [hf] at hno ⊢
  exact { h with
    frame := by
      conv_lhs => rw [h.frame]
    ring := nofun
    unformed := nofun
    marks := nofun
    formed := fun _ => (h.formed rfl).congr rfl rfl rfl rfl rfl
    gen := h.gen
    captures := h.captures
    level := fun hx => absurd rfl hx
    notices := hno }

/-- The event moves the Notice Unit and the outgoing cell alone. -/
theorem PhaseAt.after_event (hq : QuietPeriod env f u r n p s) (h : PhaseAt f u r n p s ph false t) :
    PhaseAt f u r n p s ph true (takeEvent env t) := by
  have hnode : t.node = s.node := by rw [h.frame]
  have hr : Reported False (Occurring n u s ph t) s.notices t.notices := h.notices.offered_iff (by simp)
  by_cases hp : p
  · have hn := offerIdle_notices t
    have hf := offerIdle_frame t
    have ha : (offerIdle t).out.answer = none := by
      rw [hf]
      exact h.answer
    rw [hq.idle hp t hnode]
    generalize offerIdle t = v at *
    have hi : inputMissing v = inputMissing t := by
      rw [hf]
      rfl
    have hno : Reported (true = true ∧ p) (Occurring n u s ph v) s.notices v.notices := by
      rw [hn]
      exact (hr.pop.offered_iff (by simp [hp])).congr fun k => by cases k <;> simp [Occurring, hi]
    rw [hf] at hno ha ⊢
    exact { h with
      frame := by
        conv_lhs => rw [h.frame]
      formed := fun hx => (h.formed hx).congr rfl rfl rfl rfl rfl
      notices := hno
      answer := ha
      notice := fun hx => absurd ⟨rfl, hp⟩ hx }
  · rw [hq.quiet hp t hnode]
    exact { h with
      notices := hr.offered_iff (by simp [hp])
      notice := fun _ => h.notice fun hx => hp hx.2 }

theorem PhaseAt.after_task {k : Task} {ph' : Phase} (hq : QuietPeriod env f u r n p s) (hp : ScenesPass s)
    (hw : Cells.wf 0 s.reverb.pool = true) (h : PhaseAt f u r n p s ph e t) (hk : ph.next k = some ph') :
    PhaseAt f u r n p s ph' e (runTask env false k t) := by
  have relock : relockEdge env t = t := relockEdge_of_none hq.relock t
  cases k with
  | relockEdge =>
    have hsame : ph = ph' := by cases ph <;> exact Option.some.inj hk
    rw [runTask, relock, ← hsame]
    exact h
  | commitStart =>
    cases ph
    case begun =>
      obtain rfl := Option.some.inj hk
      rw [runTask, h.after_commitStart hq rfl]
      exact h
    case started =>
      obtain rfl := Option.some.inj hk
      rw [runTask, h.after_commitStart hq rfl]
      exact h
    all_goals cases hk
  | captureStart =>
    cases ph <;> cases hk
    exact h.after_captureStart hq
  | work =>
    cases ph <;> cases hk
    exact h.after_work hq hp hw
  | burstEnd =>
    cases ph <;> cases hk
    exact h.after_burst
  | captureEnd =>
    cases ph <;> cases hk
    exact h.after_captureEnd
  | clearingEnd =>
    cases ph <;> cases hk
    rw [runTask, h.after_clearingEnd hq]
    exact h
  | missingEdge =>
    cases ph <;> cases hk
    exact h.after_missingEdge
  | decay | ramps | outputs | store | event => cases ph <;> cases hk

theorem PhaseAt.after_tasks {ts : List Task} {ph' : Phase} (hq : QuietPeriod env f u r n p s) (hp : ScenesPass s)
    (hw : Cells.wf 0 s.reverb.pool = true) (h : PhaseAt f u r n p s ph e t) (hts : ph.follows ts = some ph') :
    PhaseAt f u r n p s ph' e (runTasks env false ts t) := by
  induction ts generalizing ph t with
  | nil =>
    obtain rfl := Option.some.inj hts
    exact h
  | cons k ts ih =>
    rw [Phase.follows, Option.bind_eq_some_iff] at hts
    obtain ⟨q, hk, hts⟩ := hts
    exact ih (h.after_task hq hp hw hk) hts

/-- The whole frame period. -/
theorem phaseAt_framePeriod (hq : QuietPeriod env f u r n p s) (hp : ScenesPass s) (hw : Cells.wf 0 s.reverb.pool = true)
    (hn : n % 64 ≠ 0) :
    PhaseAt f u r n p s .closed true (framePeriod env { s with ring := r, out := ⟨none, none, none⟩ }) := by
  have hb : isBoundary (beginPeriod { s with ring := r, out := ⟨none, none, none⟩ }) = false := by
    show (r.frameNumber % 64 == 0) = false
    rw [hq.number]
    exact beq_false_of_ne hn
  unfold framePeriod
  dsimp only
  rw [hb]
  obtain ⟨before, after, q, hplan, hbefore, hafter⟩ := plan_follows (resetsNode env)
    (Config.taskOrder (beginPeriod { s with ring := r, out := ⟨none, none, none⟩ }).draws)
    (Config.eventPoint (beginPeriod { s with ring := r, out := ⟨none, none, none⟩ }).draws)
  rw [hplan, runTasks, List.foldl_append, List.foldl_cons]
  have h := (phaseAt_begin s r).after_tasks hq hp hw hbefore
  exact (h.after_event hq).after_tasks hq hp hw hafter

end

end Sys2Proof.Machine
end

section
/-! O35, from the command that brings the frame period to the state that it leaves. -/

namespace Sys2Proof.Machine

/-! ### The commands that bring a frame period -/

/-- Command `c` leaves a frame period of ring `r`, with the frame sent and the gap counted. -/
structure PeriodBrought (c : Instr) (f u : Option Frame) (n : Nat) (s : State) (env : Env) (r : Ring) (gap : Nat)
    (frame : Option Frame) : Prop where
  quiet  : QuietPeriod env f u r n (OffersIdle u) s
  back   : r.handBack = s.ring.handBack
  locked : s.ring.lock = .locked → r.signal = true ∧ gap = 0
  exec   : ∀ v, v = framePeriod env { s with ring := r, out := ⟨none, none, none⟩ } →
    exec c s = .next { v with ring := { v.ring with gap := gap }, out := { v.out with frame := frame } }

theorem arrival_brings {g : Frame} {f u : Option Frame} {n : Nat} {s : State} (h : PlainPeriod (.arrival g) f u n s) :
    ∃ env r gap frame, PeriodBrought (.arrival g) f u n s env r gap frame := by
  obtain ⟨works, ⟨g', hg, hf, hl, hsource⟩ | ⟨hx, _⟩, hcommit, hheld, hclear⟩ := h
  swap
  · exact absurd hx (by simp)
  obtain rfl : g = g' := by simpa using hg
  obtain ⟨usable, slip, r, ⟨frame, harrive⟩, ⟨rn, rl, rb, rs, rg⟩, hslip, hcell⟩ := arrive_period hl hsource
  have hevent (t : State) : takeEvent (arrivalEnv g usable slip false false) t = if usable then takeCell g t else t := rfl
  have delivers : Delivers (arrivalEnv g usable slip false false) f u := by
    rcases hcell with ⟨rfl, hu, _⟩ | ⟨rfl, hu⟩
    · rw [hf, hu]
      exact delivers_used g slip false
    · rw [hf, hu]
      exact delivers_unused g slip false
  have left := ringLeft_framePeriod (env := arrivalEnv g usable slip false false) rfl
    { s with ring := r, out := ⟨none, none, none⟩ }
  refine ⟨_, r, 0, some frame, {
    delivers := delivers, relock := rfl, slip := hslip, number := rn, lock := rl, commit := hcommit, held := hheld
    clearing := hclear
    idle := fun hp t ht => by
      obtain ⟨g', hu', hk⟩ := hp
      rcases hcell with ⟨rfl, hu, hask⟩ | ⟨_, hu⟩
      · obtain rfl : g = g' := by simpa using hu.symm.trans hu'
        rw [hevent, if_pos rfl, takeCell_of_asksNothing hask ht]
        exact if_pos hk
      · rw [hu] at hu'
        contradiction
    quiet := fun hp t ht => by
      rcases hcell with ⟨rfl, hu, hask⟩ | ⟨rfl, hu⟩
      · rw [hevent, if_pos rfl, takeCell_of_asksNothing hask ht]
        exact if_neg fun hk => hp ⟨g, hu, hk⟩
      · rfl }, rb, fun _ => ⟨rs, rfl⟩, fun v hv => ?_⟩
  rw [exec_arrival_of_works works, harrive, ← hv]
  rw [← hv] at left
  have hgap : v.ring.gap = 0 := left.gap.trans rg
  rw [send, ← hgap]

theorem oscillator_brings {f u : Option Frame} {n : Nat} {s : State} (h : PlainPeriod .oscillatorFramePeriod f u n s) :
    ∃ env r gap frame, PeriodBrought .oscillatorFramePeriod f u n s env r gap frame := by
  obtain ⟨works, ⟨g', hg, _⟩ | ⟨-, hf, hu, hl, hgap, hnum⟩, hcommit, hheld, hclear⟩ := h
  · exact absurd hg (by simp)
  have hns : ¬ Slipped n s := fun hx => hl hx.1
  have hni : ¬ OffersIdle u := by
    rintro ⟨g, hg, _⟩
    rw [hu] at hg
    contradiction
  have hno : oscillatorNumber { s with out := ⟨none, none, none⟩ } = n := hnum.symm
  have left := ringLeft_framePeriod (env := oscillatorEnv) rfl
    { s with ring := { s.ring with frameNumber := n }, out := ⟨none, none, none⟩ }
  refine ⟨oscillatorEnv, { s.ring with frameNumber := n }, if s.ring.signal then s.ring.gap + 1 else s.ring.gap,
    (framePeriod oscillatorEnv { s with ring := { s.ring with frameNumber := n }, out := ⟨none, none, none⟩ }).out.frame, {
    delivers := by rw [hf, hu]; exact delivers_oscillator
    relock := rfl, slip := by simp [oscillatorEnv, hns], number := rfl, lock := rfl, commit := hcommit
    held := hheld, clearing := hclear
    idle := fun hp => absurd hp hni
    quiet := fun _ _ _ => rfl }, rfl, fun hx => absurd hx hl, fun v hv => ?_⟩
  rw [exec_oscillator_of_works works, oscillator, if_neg hl, oscillatorPeriod, hno]
  have hperiod : framePeriod oscillatorEnv (setRing { { s with out := ⟨none, none, none⟩ }.ring with frameNumber := n }
      { s with out := ⟨none, none, none⟩ }) = v := hv.symm
  rw [← hv] at left ⊢
  rw [hperiod, countGap_of_short (by rw [left.signal, left.gap]; exact hgap), left.signal, left.gap]
  rfl

theorem period_brought {c : Instr} {f u : Option Frame} {n : Nat} {s : State} (h : PlainPeriod c f u n s) :
    ∃ env r gap frame, PeriodBrought c f u n s env r gap frame := by
  rcases h.source with ⟨g, rfl, _⟩ | ⟨rfl, _⟩
  · exact arrival_brings h
  · exact oscillator_brings h

/-! ### Reading off the last phase -/

section
variable {f u : Option Frame} {r : Ring} {n : Nat} {p : Prop} {s v : State}

theorem PhaseAt.latched_iff {ph : Phase} {e : Bool} (h : PhaseAt f u r n p s ph e v) (k : NoticeKind) :
    latched v k = true ↔ latched s k = true ∨ Occurring n u s ph v k := h.notices.flags k

/-- The kinds of which a frame period that is no block boundary may report an occurrence. -/
theorem mem_kinds_of_occurring {ph : Phase} {k : NoticeKind} (h : Occurring n u s ph v k) :
    k ∈ [NoticeKind.clip, .captureDone, .inputMissing] := by
  cases k <;> simp [Occurring] at h ⊢

theorem PhaseAt.noticesMoved (h : PhaseAt f u r n (OffersIdle u) s .closed true v) :
    NoticesMoved [.clip, .captureDone, .inputMissing] u s v := by
  have hkinds : ∀ k, Occurring n u s .closed v k → k ∈ [NoticeKind.clip, .captureDone, .inputMissing] :=
    fun k => mem_kinds_of_occurring
  refine ⟨fun k hk => (h.latched_iff k).2 (.inl hk), fun k hk => ?_, fun ho => h.notices.left ⟨rfl, ho⟩ _ hkinds,
    fun ho => ⟨h.notice fun hx => ho hx.2, (h.notices.kept (fun hx => ho hx.2) _ hkinds).1⟩, h.answer⟩
  rw [Bool.eq_iff_iff]
  exact (h.latched_iff k).trans (or_iff_left fun hx => hk (hkinds k hx))

theorem captureRuns_ended (x : Sample) (c : Capture) : captureAt x c .closed = { c with
    state := if c.wanted ≤ c.captured + 1 then .done else .running
    scheduled := if c.state = .armed then none else c.scheduled
    triggered := if c.state = .armed then false else c.triggered
    captured := c.captured + 1, words := Cells.write 0 c.words c.captured x } := by
  simp only [captureAt, endedCapture, recorded, runningCapture]
  split <;> simp_all

/-- The generator after its sample in a frame period in which its burst ends, or none is accepted (R172). -/
theorem generatorAt_closed (s : State) (hn : s.gen.next = none) : generatorAt s .closed =
    if (generatorAdvance s.gen).running = true ∧ (generatorAdvance s.gen).remaining = 0 then
      generatorReady (generatorAdvance s.gen)
    else generatorAdvance s.gen := by
  have hnext : (generatorAdvance s.gen).next = none := by
    unfold generatorAdvance
    split <;> exact hn
  unfold generatorAt burstBegin burstEnd
  dsimp only
  by_cases hb : (generatorAdvance s.gen).running = true ∧ (generatorAdvance s.gen).remaining = 0
  · rw [if_pos hb, if_pos hb]
    simp only [generatorReady, hnext]
  · rw [if_neg hb, if_neg hb]
    simp only [hnext]

/-- A running burst after its sample: the remaining length and, of noise, the noise state counted on (R172). -/
theorem generatorAdvance_of_running {g : Generator} (h : g.running = true) : generatorAdvance g = { g with
    remaining := g.remaining - 1, first := false
    noise := if g.kind = .noise then (1664525 * g.noise + 1013904223) % 4294967296 else g.noise } := by
  unfold generatorAdvance
  rw [if_pos h]
  cases hk : g.kind <;> simp [nextNoise]

theorem generatorAdvance_of_ready {g : Generator} (h : g.running = false) : generatorAdvance g = g := by
  unfold generatorAdvance
  rw [if_neg (by simp [h])]

theorem PhaseAt.gen_closed {e : Bool} (h : PhaseAt f u r n p s .closed e v) (hn : s.gen.next = none) :
    (s.gen.running = true → 2 ≤ s.gen.remaining → v.gen = generatorAdvance s.gen) ∧
    (s.gen.running = true → s.gen.remaining = 1 → v.gen = { generatorAdvance s.gen with running := false }) ∧
    (s.gen.running = false → v.gen = s.gen) := by
  rw [h.gen, generatorAt_closed s hn]
  refine ⟨fun hr hk => ?_, fun hr hk => ?_, fun hr => ?_⟩
  · rw [generatorAdvance_of_running hr]
    refine if_neg fun hx => ?_
    have hz : s.gen.remaining - 1 = 0 := hx.2
    omega
  · rw [generatorAdvance_of_running hr, hk]
    exact if_pos ⟨hr, rfl⟩
  · rw [generatorAdvance_of_ready hr]
    exact if_neg fun hx => by simp [hr] at hx

/-- The core of a frame period that computes. -/
theorem PhaseAt.core_closed {e : Bool} (h : PhaseAt f u r n p s .closed e v) (hc : s.reverb.clearing = false) :
    CoreComputed u s v.reverb ∧ ∀ j, LineClips u s j → latched v .clip = true :=
  ⟨(h.formed rfl).core hc, fun j hj => (h.latched_iff .clip).2 (.inr ⟨rfl, .inr ⟨hc, j, hj⟩⟩)⟩

/-- The core's work moves no current and no clearing. -/
theorem CoreComputed.kept {q : Reverb} (h : CoreComputed u s q) : q.clearing = s.reverb.clearing ∧
    q.clearCount = s.reverb.clearCount ∧ q.injectionCurrent = s.reverb.injectionCurrent ∧
    q.lineCurrent = s.reverb.lineCurrent ∧ q.tapCurrent = s.reverb.tapCurrent := by
  rw [h.rest]
  exact ⟨rfl, rfl, rfl, rfl, rfl⟩

/-- The core of a clearing frame period (R77). -/
theorem PhaseAt.cleared_closed {e : Bool} (h : PhaseAt f u r n p s .closed e v) (hc : s.reverb.clearing = true) :
    v.reverb = { s.reverb with
      pool := v.reverb.pool, clearCount := s.reverb.clearCount + 1, lastEnd := Vector.replicate 16 0 } ∧
    ∀ a, Cells.read 0 v.reverb.pool a =
      if 4096 * s.reverb.clearCount ≤ a ∧ a < 4096 * s.reverb.clearCount + 4096 then 0 else Cells.read 0 s.reverb.pool a := by
  rw [(h.formed rfl).cleared hc]
  refine ⟨rfl, fun a => ?_⟩
  unfold reverbClear Config.clearStride
  exact read_clear s.reverb.pool _ _ a

theorem PhaseAt.capture_closed {e : Bool} (h : PhaseAt f u r n p s .closed e v) (hr : CaptureRuns n s)
    (hw : Cells.wf 0 s.capture.words = true) :
    v.capture = { s.capture with
      state := if s.capture.wanted ≤ s.capture.captured + 1 then .done else .running
      scheduled := if s.capture.state = .armed then none else s.capture.scheduled
      triggered := if s.capture.state = .armed then false else s.capture.triggered
      captured := s.capture.captured + 1, words := v.capture.words } ∧
    ∀ k, Cells.read 0 v.capture.words k =
      if k = s.capture.captured then expectedPoint f u s s.capture.point else Cells.read 0 s.capture.words k := by
  rw [h.captures hr, captureRuns_ended]
  exact ⟨rfl, read_write s.capture.words hw _ _⟩

theorem PhaseAt.engine_closed {e : Bool} (h : PhaseAt f u r n p s .closed e v) :
    ((∀ m : Fin 32, s.outputs[m].current = 1536 ∧ expectedGenerator s m = 0) →
      v.engine = { s.engine with quiet := min (s.engine.quiet + 1) 2 }) ∧
    ((∃ m : Fin 32, s.outputs[m].current ≠ 1536 ∨ expectedGenerator s m ≠ 0) → v.engine = { s.engine with quiet := 0 }) := by
  rw [(h.formed rfl).engine, quietNext]
  refine ⟨fun hq => by rw [if_pos hq], fun ⟨m, hm⟩ => ?_⟩
  rw [if_neg fun hx => hm.elim (fun h1 => h1 (hx m).1) fun h2 => h2 (hx m).2]

end

/-- Settles O35: the tasks of a frame period that is no block boundary, each at its turn around the event, end in the
phase in which the samples are formed, the burst and the capture are counted on and the occurrences are reported. -/
theorem framePeriodComputes : Obligations.FramePeriodComputes := by
  unfold Obligations.FramePeriodComputes
  intro c f u n s h hn hmem hpass b writeAddress advanced
  obtain ⟨env, r, gap, frame, brought⟩ := period_brought h
  have phase := phaseAt_framePeriod brought.quiet hpass hmem.pool hn
  have hexec := brought.exec _ rfl
  generalize framePeriod env { s with ring := r, out := ⟨none, none, none⟩ } = v at *
  have formed := phase.formed rfl
  have hv := phase.handed rfl
  have hfront : v.ring.handFront = s.ring.handBack := by rw [hv, ← brought.back]
  have moved := phase.noticesMoved
  have hnext (hg : s.gen.running = true) : generatorAdvance s.gen = advanced := generatorAdvance_of_running hg
  refine ⟨_, hexec, ?_, ?_, ?_, hfront, fun hl => ⟨hfront, ?_, (brought.locked hl).2⟩, formed.inputs, fun hc => ?_,
    phase.cleared_closed, fun m => ⟨formed.sent m, formed.outputs m, fun hm => ⟨(formed.clips m).1 hm, ?_⟩, (formed.clips m).2⟩,
    fun hg => ?_, fun hr => ?_, phase.waits, phase.engine_closed.1, phase.engine_closed.2, ?_, ?_, ?_, ?_, ?_, ?_, ?_, ?_, ?_,
    ⟨moved.holds, moved.flags, moved.offered, moved.kept, moved.answer⟩,
    (phase.latched_iff .clip).trans ?_, (phase.latched_iff .captureDone).trans ?_, (phase.latched_iff .inputMissing).trans ?_⟩
  · show v.started = true
    rw [phase.frame]
  · show v.ring.frameNumber = n
    rw [hv, ← brought.quiet.number]
  · show v.ring.lock = s.ring.lock
    rw [hv, ← brought.quiet.lock]
  · show v.ring.signal = true
    rw [hv]
    exact (brought.locked hl).1
  · obtain ⟨core, hclip⟩ := phase.core_closed hc
    obtain ⟨hclearing, hkept⟩ := core.kept
    refine ⟨fun j hj => ⟨core.written j hj, ?_, fun hs => ?_, fun hs => ⟨?_, hclip j ⟨hj, hs⟩⟩⟩, fun j hj => ⟨?_, ?_⟩,
      core.words, fun j => ⟨core.applied j, core.lastEnd j⟩, hclearing.trans hc, hkept⟩
    · exact (core.position j).trans (if_pos hj)
    · exact (core.lineClips j).trans (if_neg fun hx => hx.2 hs)
    · exact (core.lineClips j).trans (if_pos ⟨hj, hs⟩)
    · exact (core.position j).trans (if_neg fun hx => hx hj)
    · exact (core.lineClips j).trans (if_neg fun hx => hx.1 hj)
  · exact (phase.latched_iff .clip).2 (.inr ⟨rfl, .inl ⟨m, hm⟩⟩)
  · obtain ⟨hgoes, hends, hready⟩ := phase.gen_closed hg
    exact ⟨fun hr hk => (hgoes hr hk).trans (hnext hr),
      fun hr hk => (hends hr hk).trans (congrArg (fun g : Generator => { g with running := false }) (hnext hr)), hready⟩
  · obtain ⟨hcapture, hwords⟩ := phase.capture_closed hr hmem.capture
    exact ⟨hcapture, hwords, fun hw => (phase.latched_iff .captureDone).2 (.inr ⟨.inr rfl, hr, hw⟩)⟩
  iterate 9
    · dsimp only
      rw [phase.frame]
  · exact or_congr_right (and_iff_right rfl)
  · exact or_congr_right (and_iff_right (.inr rfl))
  · exact or_congr_right (and_iff_right rfl)

end Sys2Proof.Machine
end

section
/-! The mixing of a feedback group (R61 to R63): the rows of signs are orthogonal, so the sums of a group carry N times
the energy of what they sum. -/

namespace Sys2Proof.Machine

/-- Rows of signs of one order are orthogonal: two columns agree in as many rows as they differ in (R62). -/
theorem mixSign_orthogonal (order : MatrixOrder) (k l : Fin order.size) :
    ∑ j : Fin order.size, mixSign j.val k.val * mixSign j.val l.val = if k = l then (order.size : Int) else 0 := by
  cases order with
  | four => revert k l; decide
  | sixteen => revert k l; decide

/-- The squares of the signed sums of `y` add up to N times its squares (R63). -/
theorem mixing_energy (order : MatrixOrder) (y : Fin order.size → Int) :
    ∑ j : Fin order.size, (∑ k : Fin order.size, mixSign j.val k.val * y k) ^ 2 =
      order.size * ∑ k : Fin order.size, y k ^ 2 := by
  calc ∑ j : Fin order.size, (∑ k : Fin order.size, mixSign j.val k.val * y k) ^ 2
      = ∑ j : Fin order.size, ∑ k : Fin order.size, ∑ l : Fin order.size,
          mixSign j.val k.val * mixSign j.val l.val * (y k * y l) := by
        refine Finset.sum_congr rfl fun j _ => ?_
        rw [sq, Finset.sum_mul_sum]
        exact Finset.sum_congr rfl fun k _ => Finset.sum_congr rfl fun l _ => mul_mul_mul_comm _ _ _ _
    _ = ∑ k : Fin order.size, ∑ l : Fin order.size,
          (∑ j : Fin order.size, mixSign j.val k.val * mixSign j.val l.val) * (y k * y l) := by
        rw [Finset.sum_comm]
        refine Finset.sum_congr rfl fun k _ => ?_
        rw [Finset.sum_comm]
        exact Finset.sum_congr rfl fun l _ => (Finset.sum_mul _ _ _).symm
    _ = ∑ k : Fin order.size, order.size * y k ^ 2 := by
        refine Finset.sum_congr rfl fun k _ => ?_
        simp only [mixSign_orthogonal, ite_mul, zero_mul, Finset.sum_ite_eq, Finset.mem_univ, if_true, sq]
    _ = order.size * ∑ k : Fin order.size, y k ^ 2 := (Finset.mul_sum _ _ _).symm

/-! ### The groups of the core -/

theorem size_pos (order : MatrixOrder) : 0 < order.size := by cases order <;> decide

/-- A group's lines lie among the sixteen (R61). -/
theorem groupLine_lt {order : MatrixOrder} {g : Nat} (hg : g < 16 / order.size) (p : Fin order.size) :
    order.size * g + p.val < 16 := by
  have hp := p.isLt
  cases order <;> simp only [MatrixOrder.size] at hp hg ⊢ <;> omega

/-- The line at position `p` of feedback group `g` (R61). -/
def groupLine {order : MatrixOrder} {g : Nat} (hg : g < 16 / order.size) (p : Fin order.size) : Fin 16 :=
  ⟨order.size * g + p.val, groupLine_lt hg p⟩

section

variable {order : MatrixOrder} {g : Nat} (hg : g < 16 / order.size)

theorem groupLine_div (p : Fin order.size) : (groupLine hg p).val / order.size = g := by
  rw [groupLine, Nat.mul_add_div (size_pos order), Nat.div_eq_of_lt p.isLt, Nat.add_zero]

theorem groupLine_mod (p : Fin order.size) : (groupLine hg p).val % order.size = p.val := by
  rw [groupLine, Nat.mul_add_mod, Nat.mod_eq_of_lt p.isLt]

/-- A sum over the lines of a group, as a sum over its positions. -/
theorem sum_group (f : Fin 16 → Int) :
    (∑ j : Fin 16, if j.val / order.size = g then f j else 0) = ∑ p : Fin order.size, f (groupLine hg p) := by
  rw [← Finset.sum_filter]
  refine (Finset.sum_nbij (groupLine hg) (fun p _ => ?_) (fun p _ q _ h => ?_) (fun j hj => ?_) fun _ _ => rfl).symm
  · exact Finset.mem_filter.2 ⟨Finset.mem_univ _, groupLine_div hg p⟩
  · exact Fin.ext ((groupLine_mod hg p).symm.trans (h ▸ groupLine_mod hg q))
  · obtain ⟨-, hd⟩ := Finset.mem_filter.1 hj
    refine ⟨⟨j.val % order.size, Nat.mod_lt _ (size_pos order)⟩, Finset.mem_coe.2 (Finset.mem_univ _), Fin.ext ?_⟩
    subst hd
    exact Nat.div_add_mod j.val order.size

end

/-- The group sum at a position of a group: the signed sum of the group's signed line ends (R62). -/
theorem groupSum_groupLine (s : State) {g : Nat} (hg : g < 16 / (activeBank s).globals.order.size)
    (p : Fin (activeBank s).globals.order.size) :
    groupSum s (groupLine hg p) = ∑ q : Fin (activeBank s).globals.order.size, mixSign p.val q.val *
      ((activeBank s).lines[groupLine hg q].sign.factor * lineEnd s (groupLine hg q)) := by
  unfold groupSum
  dsimp only
  rw [total_entries]
  simp only [sameGroup, beq_iff_eq, groupLine_div, groupLine_mod, eq_comm (a := g)]
  rw [sum_group hg]
  refine Finset.sum_congr rfl fun q _ => ?_
  rw [groupLine_mod]
  ring

theorem Sign.factor_sq (x : Sign) : x.factor ^ 2 = 1 := by cases x <;> rfl

/-- Settles O22: the rows of signs are orthogonal, and a group's sums are the signed sums of its signed line ends. -/
theorem mixingKeepsEnergy : Obligations.MixingKeepsEnergy := by
  refine ⟨mixing_energy, fun s g => ?_⟩
  by_cases hg : g < 16 / (activeBank s).globals.order.size
  · rw [sum_group hg, sum_group hg]
    simp only [groupSum_groupLine, mixing_energy, mul_pow, Sign.factor_sq, one_mul]
  · have outside : ∀ j : Fin 16, j.val / (activeBank s).globals.order.size ≠ g := fun j hj => by
      have hlt : j.val / (activeBank s).globals.order.size < 16 / (activeBank s).globals.order.size := by
        have hj := j.isLt
        cases (activeBank s).globals.order <;> simp only [MatrixOrder.size] <;> omega
      exact hg (hj ▸ hlt)
    simp only [outside, if_false, Finset.sum_const_zero, mul_zero]

end Sys2Proof.Machine
end

section
/-! What the part holds beside the sound path: the words of the scene store and of the capture, the write positions, the
banks and their roles, and the engine's operation. An invariant that reads nothing else is kept by the step once it is
kept by the few operations that write them (R122 to R153, R157, R174). -/

-- Each worker thread of the elaborator holds a stack of its own, so these proofs are checked one after another.
set_option Elab.async false

namespace Sys2Proof.Machine

/-- Two states with the same stored words, write positions, banks and roles, and the same operation in the same state of
the engine. -/
structure SameHeld (s t : State) : Prop where
  words       : t.capture.words = s.capture.words := by rfl
  memory      : t.store.memory = s.store.memory := by rfl
  startMemory : t.store.startMemory = s.store.startMemory := by rfl
  position    : t.reverb.position = s.reverb.position := by rfl
  active      : t.active = s.active := by rfl
  bankA       : t.bankA = s.bankA := by rfl
  bankB       : t.bankB = s.bankB := by rfl
  state       : t.engine.state = s.engine.state := by rfl
  operation   : t.engine.operation = s.engine.operation := by rfl

/-- A COMMIT is scheduled, fading out or clearing, so its bank is locked (R127, R130). -/
def CommitHeld (s : State) : Prop := engineReason s = true ∧ ∃ mode, s.engine.operation = .commit mode

/-- Bank `c` has the structure of bank `b` that the set check reads, but for output runs that may be shorter (R129). -/
structure Tuned (b c : Bank) : Prop where
  base       : ∀ j : Fin 16, c.lines[j].base = b.lines[j].base := by exact fun _ => rfl
  length     : ∀ j : Fin 16, c.lines[j].length = b.lines[j].length := by exact fun _ => rfl
  order      : c.globals.order = b.globals.order := by rfl
  input      : ∀ n : Fin 128, c.injections[n].input = b.injections[n].input := by exact fun _ => rfl
  injected   : ∀ n : Fin 128, c.injections[n].line = b.injections[n].line := by exact fun _ => rfl
  tapped     : ∀ k : Fin 512, c.taps[k].line = b.taps[k].line := by exact fun _ => rfl
  offset     : ∀ k : Fin 512, c.taps[k].offset = b.taps[k].offset := by exact fun _ => rfl
  slot       : ∀ m : Fin 32, c.outputs[m].slot = b.outputs[m].slot := by exact fun _ => rfl
  firstTap   : ∀ m : Fin 32, c.outputs[m].firstTap = b.outputs[m].firstTap := by exact fun _ => rfl
  tapCount   : ∀ m : Fin 32, c.outputs[m].tapCount ≤ b.outputs[m].tapCount := by exact fun _ => Nat.le_refl _

/-- The part as power-on finds it: the state after reset over the nonvolatile memory (R37, R157). -/
def restarted (s : State) : State :=
  { State.reset with store := { State.reset.store with memory := s.store.memory, startMemory := s.store.startMemory } }

/-- A property of states that reads what `SameHeld` compares, and is kept by each operation that writes any of it: the
engine may take up a commit of a bank that passes the set check or is held already, a bank may be tuned, and the pending
bank may be rewritten where the engine does not lock it. -/
structure HeldInvariant (P : State → Prop) : Prop where
  blind                  : ∀ {s t : State}, P s → SameHeld s t → P t
  keeps_restarted        : ∀ s, P s → P (restarted s)
  keeps_storeCutShort    : ∀ s, P s → P (storeCutShort s)
  keeps_eraseEnd         : ∀ ok n s, P s → P (eraseEnd ok n s)
  keeps_writeEnd         : ∀ ok n s, P s → P (writeEnd ok n s)
  keeps_rewriteEnd       : ∀ ok r s, P s → P (rewriteEnd ok r s)
  keeps_recorded         : ∀ x s, P s → P { s with capture := recorded x s.capture }
  keeps_reverbCompute    : ∀ x level s, P s → P (reverbCompute x level s)
  keeps_clearingComplete : ∀ s, P s → P (clearingComplete s)
  keeps_setEngine        : ∀ e s, P s → (CommitHeld (setEngine e s) → CommitHeld s ∨ setCheck (pendingBank s) = none) →
    P (setEngine e s)
  keeps_smoothSwap       : ∀ s, P s → CommitHeld s ∨ setCheck (pendingBank s) = none →
    compatible s.bankA s.bankB = true → P (smoothSwap s)
  keeps_tuned            : ∀ n b s, P s → Tuned (bankOf s n) b → P (setBank s n b)
  keeps_pendingWritten   : ∀ b s, P s → engineReason s = false → P (setBank s (pendingName s) b)

/-! ### Records written into the active bank -/

/-- A write of an entry that is taken (R185). -/
theorem writeEntry_ok {α : Type} {k : Nat} {get : Bank → Vector α k} {put : Bank → Vector α k → Bank} {live : Bool}
    {n : BankName} {r : Treated α} {equal : α → α → Bool} {merge : α → α → α} {after : Fin k → α → α → State → State}
    {i : Nat} {s t : State} {clamped : Bool} (hw : writeEntry get put live n r equal merge after i s = .ok (t, clamped)) :
    ∃ (j : Fin k) (new : α), r = some (new, clamped) ∧ (live = true → equal (get (bankOf s n))[j] new = true) ∧
      t = after j (get (bankOf s n))[j] (merge (get (bankOf s n))[j] new)
        (setBank s n (put (bankOf s n) (setAt (get (bankOf s n)) j (merge (get (bankOf s n))[j] new)))) := by
  unfold writeEntry at hw
  split at hw
  · cases hw
  · next new _ =>
    split at hw
    · next hi =>
      dsimp only at hw
      split at hw
      · cases hw
      · next hl =>
        obtain ⟨rfl, rfl⟩ := Prod.mk.inj (Except.ok.inj hw)
        refine ⟨⟨i, hi⟩, new, rfl, fun hlive => ?_, rfl⟩
        rw [hlive, Bool.true_and, Bool.not_eq_true', Bool.not_eq_false] at hl
        exact hl
    · cases hw

/-- An entry set to a record with the same field leaves that field of every entry. -/
theorem field_setAt {α β : Type} {n : Nat} {t : Vector α n} {i : Fin n} {a : α} (f : α → β) (h : f a = f t[i]) (j : Fin n) :
    f (setAt t i a)[j] = f t[j] := by
  rw [getElem_setAt]
  split
  · next hj => exact hj ▸ h
  · rfl

theorem tuned_injections {b : Bank} {n : Fin 128} {r : InjectionRec} (hi : r.input = b.injections[n].input)
    (hl : r.line = b.injections[n].line) : Tuned b { b with injections := setAt b.injections n r } where
  input := field_setAt InjectionRec.input hi
  injected := field_setAt InjectionRec.line hl

theorem tuned_lines {b : Bank} {j : Fin 16} {r : LineRec} (hb : r.base = b.lines[j].base)
    (hl : r.length = b.lines[j].length) : Tuned b { b with lines := setAt b.lines j r } where
  base := field_setAt LineRec.base hb
  length := field_setAt LineRec.length hl

theorem tuned_taps {b : Bank} {t : Fin 512} {r : TapRec} (hl : r.line = b.taps[t].line)
    (ho : r.offset = b.taps[t].offset) : Tuned b { b with taps := setAt b.taps t r } where
  tapped := field_setAt TapRec.line hl
  offset := field_setAt TapRec.offset ho

theorem tuned_outputs {b : Bank} {m : Fin 32} {r : OutputRec} (hs : r.slot = b.outputs[m].slot)
    (hf : r.firstTap = b.outputs[m].firstTap) (hc : r.tapCount ≤ b.outputs[m].tapCount) :
    Tuned b { b with outputs := setAt b.outputs m r } where
  slot := field_setAt OutputRec.slot hs
  firstTap := field_setAt OutputRec.firstTap hf
  tapCount k := by
    rw [getElem_setAt]
    split
    · next h => exact h ▸ hc
    · exact Nat.le_refl _

/-- A tap count is clamped downward alone (R124). -/
theorem decodeOutput_tapCount {ws : List Word} {r : OutputRec} {clamped : Bool} (h : decodeOutput ws = some (r, clamped)) :
    r.tapCount ≤ carriedTapCount ws := by
  unfold decodeOutput at h
  dsimp only at h
  split at h
  · split at h
    · obtain ⟨rfl, -⟩ := Prod.mk.inj (Option.some.inj h)
      exact Nat.min_le_left _ _
    · cases h
  · cases h

/-- A computed result is no structure (R88, R126). -/
theorem tuned_withDecay (b : Bank) (e : DecayEntry) : Tuned b (withDecay b e) := tuned_lines rfl rfl

/-- Bank `n` has a record written: a live write tunes it (R126), and beside it stand the recomputes, the outputs and the
backoff alone. -/
def BankWritten (live : Bool) (n : BankName) (s t : State) : Prop :=
  ∃ b, (live = true → Tuned (bankOf s n) b) ∧
    t = { setBank s n b with decay := t.decay, outputs := t.outputs, backoff := t.backoff }

theorem bankWritten_entry {α : Type} {k : Nat} {get : Bank → Vector α k} {put : Bank → Vector α k → Bank} {live : Bool}
    {n : BankName} {r : Treated α} {equal : α → α → Bool} {merge : α → α → α} {after : Fin k → α → α → State → State}
    {i : Nat} {s t : State} {clamped : Bool}
    (ha : ∀ j old new u, after j old new u = { u with
      decay := (after j old new u).decay, outputs := (after j old new u).outputs, backoff := (after j old new u).backoff })
    (hl : ∀ b (j : Fin k) new, r = some (new, clamped) → equal (get b)[j] new = true →
      Tuned b (put b (setAt (get b) j (merge (get b)[j] new))))
    (hw : writeEntry get put live n r equal merge after i s = .ok (t, clamped)) : BankWritten live n s t := by
  obtain ⟨j, new, hr, he, rfl⟩ := writeEntry_ok hw
  exact ⟨_, fun hlive => hl _ j new hr (he hlive), ha _ _ _ _⟩

theorem bankWritten_writeBank {table : BankTable} {v : View} {i : Nat} {ws : List Word} {s t : State} {clamped : Bool}
    (hw : writeBank table v i ws s = .ok (t, clamped)) : BankWritten (v == .active) (viewName s v) s t := by
  unfold writeBank at hw
  cases table with
  | inputs => exact bankWritten_entry (fun _ _ _ _ => rfl) (fun _ _ _ _ _ => {}) hw
  | injections =>
    refine bankWritten_entry (fun _ _ _ _ => rfl) (fun b n r _ he => ?_) hw
    simp only [Bool.and_eq_true, beq_iff_eq] at he
    exact tuned_injections he.1.symm he.2.symm
  | lines =>
    refine bankWritten_entry (fun _ _ _ u => ?_) (fun b j r _ he => ?_) hw
    · rw [lineAfter_decay]
    · simp only [Bool.and_eq_true, beq_iff_eq] at he
      exact tuned_lines he.1.1.symm he.1.2.symm
  | taps =>
    refine bankWritten_entry (fun _ _ _ _ => rfl) (fun b k r _ he => ?_) hw
    simp only [Bool.and_eq_true, beq_iff_eq] at he
    exact tuned_taps he.1.1.symm he.1.2.symm
  | outputs =>
    refine bankWritten_entry (fun _ _ _ u => ?_) (fun b m r hr he => ?_) hw
    · unfold outputAfter
      split <;> rfl
    · simp only [Bool.and_eq_true, beq_iff_eq] at he
      exact tuned_outputs he.1.1.symm he.1.2.symm (he.2 ▸ decodeOutput_tapCount hr)
  | profiles =>
    refine bankWritten_entry (fun _ _ _ u => ?_) (fun _ _ _ _ _ => {}) hw
    unfold profileAfter
    split
    · rw [profileWritten_frame]
    · rfl
  | globals =>
    simp only [writeGlobals] at hw
    split at hw
    · cases hw
    · next r _ _ =>
      split at hw
      · cases hw
      · next hl =>
        obtain ⟨rfl, -⟩ := Prod.mk.inj (Except.ok.inj hw)
        rw [Bool.and_eq_true, not_and, bne_iff_ne, not_not] at hl
        refine ⟨{ bankOf s (viewName s v) with globals := r }, fun hv => { order := (hl hv).symm }, ?_⟩
        unfold globalsAfter
        split <;> rfl

/-- A record written into a table: into a bank through the pointer's view, or into the amendments or the node record. -/
theorem writeTable_cases {p : Pointer} {ws : List Word} {s t : State} {clamped : Bool}
    (hw : writeTable p ws s = .ok (t, clamped)) :
    (∃ table, p.table = .bank table ∧ BankWritten (p.view == .active) (viewName s p.view) s t) ∨
      t = { s with node := t.node, store := { s.store with amendments := t.store.amendments } } := by
  unfold writeTable at hw
  split at hw
  · next table ht => exact .inl ⟨table, ht, bankWritten_writeBank hw⟩
  · unfold writeAmendment at hw
    split at hw
    · cases hw
    · obtain ⟨rfl, -⟩ := Prod.mk.inj (Except.ok.inj hw)
      exact .inr rfl
  · obtain ⟨rfl, -⟩ := Prod.mk.inj (Except.ok.inj hw)
    exact .inr rfl
  all_goals cases hw

/-- The engine and the pointer stand while the records of a PUT are written. -/
theorem writeTable_still {p : Pointer} {ws : List Word} {s t : State} {clamped : Bool}
    (hw : writeTable p ws s = .ok (t, clamped)) : t.engine = s.engine ∧ t.pointer = s.pointer := by
  rcases writeTable_cases hw with ⟨_, _, b, _, ht⟩ | ht
  · rw [ht]
    exact ⟨setBank_engine s _ b, setBank_pointer s _ b⟩
  · rw [ht]
    exact ⟨rfl, rfl⟩

/-! ### What keeps an invariant of what the part holds -/

section

variable {P : State → Prop} (hP : HeldInvariant P)

include hP

theorem HeldInvariant.congr {s t u : State} (h : P s) (e : t = u) (hu : SameHeld s u) : P t := by
  rw [e]
  exact hP.blind h hu

theorem HeldInvariant.keeps_edges {old new : State} (h : P new) : P (edges old new) :=
  hP.congr h (edges_frame old new) {}

theorem HeldInvariant.keeps_withEdges {f : State → State} {s : State} (h : P (f s)) : P (withEdges f s) := hP.keeps_edges h

theorem HeldInvariant.keeps_pulseIf (b : Bool) (k : NoticeKind) {s : State} (h : P s) : P (pulseIf b k s) :=
  hP.congr h (pulseIf_frame b k s) {}

/-! #### The Scene Engine -/

/-- An engine that holds no bank under lock may be set at any time. -/
theorem HeldInvariant.keeps_released {e : Engine} {s : State} (h : P s) (he : engineReason (setEngine e s) = false) :
    P (setEngine e s) :=
  hP.keeps_setEngine e s h fun hc => absurd hc.1 (by rw [he]; decide)

theorem HeldInvariant.keeps_execute (mode : CommitMode) {s : State} (h : P s)
    (hc : CommitHeld s ∨ setCheck (pendingBank s) = none) : P (execute mode s) := by
  unfold execute
  split
  · next hm => exact hP.keeps_smoothSwap s h hc hm.2
  · exact hP.blind (hP.keeps_setEngine { s.engine with state := .fadeOut, scheduled := none } s h fun _ => hc) {}

/-- A commit that is scheduled holds its bank, whatever its mode (R130). -/
theorem HeldInvariant.keeps_executeScheduled {s : State} (h : P s) : P (executeScheduled s) := by
  unfold executeScheduled
  split
  · next mode hs ho => exact hP.keeps_execute mode h (.inl ⟨by rw [engineReason, hs], mode, ho⟩)
  · exact h

theorem HeldInvariant.keeps_commitStart (slip : Bool) {s : State} (h : P s) : P (commitStart slip s) := by
  unfold commitStart
  split
  · exact hP.keeps_executeScheduled h
  · exact h

/-- A commit begun at once, of a bank that passes the set check (R134, R151). -/
theorem HeldInvariant.keeps_begunCommit (mode : CommitMode) {s : State} (h : P s) (hp : setCheck (pendingBank s) = none) :
    P (execute mode (beginCommit mode s)) :=
  hP.keeps_execute mode (hP.keeps_setEngine { s.engine with operation := .commit mode } s h fun _ => .inr hp) (.inr hp)

theorem HeldInvariant.keeps_startUpCommit {s : State} (h : P s) : P (startUpCommit s) := by
  unfold startUpCommit
  split
  · exact hP.blind h {}
  · next hn =>
    exact hP.keeps_begunCommit .auto h (Option.not_isSome_iff_eq_none.1 (not_or.1 hn).2)

theorem HeldInvariant.keeps_cancelCommit {s : State} (h : P s) : P (cancelCommit s) :=
  hP.blind (hP.keeps_released (e := { s.engine with state := .steady, operation := .none, scheduled := none }) h rfl) {}

/-- The clearing of a commit takes over the bank that its FADE_OUT holds (R142). -/
theorem HeldInvariant.keeps_clearingStart {s : State} (h : P s) (hd : clearingDue s = true) : P (clearingStart s) := by
  have hf : s.engine.state = .fadeOut := by
    simp only [clearingDue, Bool.and_eq_true, beq_iff_eq] at hd
    exact hd.1.1
  refine hP.blind (hP.keeps_setEngine { s.engine with state := .clearing } s h fun hc => .inl ⟨?_, hc.2⟩) {}
  rw [engineReason, hf]

theorem HeldInvariant.keeps_fadeInEnd {s : State} (h : P s) : P (fadeInEnd s) :=
  hP.keeps_pulseIf _ _ (hP.keeps_released h rfl)

theorem HeldInvariant.keeps_engineBoundary (mute : Bool) {s : State} (h : P s) : P (engineBoundary mute s) := by
  unfold engineBoundary
  split
  · next hd => exact hP.keeps_clearingStart h hd
  · split
    · exact hP.keeps_fadeInEnd h
    · exact h

/-- A warm reset takes the operation from a commit under way (R152, R153). -/
theorem HeldInvariant.keeps_engineWarmReset {s : State} (h : P s) : P (engineWarmReset s) := by
  have cut : ∀ e : Engine, e.operation = .reset → ∀ t, P t → P (setEngine e t) := fun e he t ht =>
    hP.keeps_setEngine e t ht fun ⟨_, _, hm⟩ => by
      rw [setEngine_engine, he] at hm
      cases hm
  have hr : P (resetCommit s) := hP.congr h (resetCommit_frame s)
    { state := by rw [resetCommit_engine], operation := by rw [resetCommit_engine] }
  unfold engineWarmReset selfCut
  dsimp only
  split
  · exact hP.blind (cut _ rfl _ hr) {}
  · exact cut _ rfl _ hr

theorem HeldInvariant.keeps_engineLockLoss {s : State} (h : P s) : P (engineLockLoss s) := by
  unfold engineLockLoss
  split
  · exact hP.keeps_cancelCommit h
  · exact h

theorem HeldInvariant.keeps_lockLost {s : State} (h : P s) : P (lockLost s) := by
  have hb : P (stopBurst (outputsLockLoss (inputsLockLoss (ringLockLoss s)))) := hP.blind h {}
  refine hP.congr (hP.keeps_engineLockLoss hb) (captureLockLoss_frame _) { words := ?_ }
  unfold captureLockLoss
  split <;> rfl

theorem HeldInvariant.keeps_signalLost {s : State} (h : P s) : P (signalLost s) := by
  have ht : P (setRing { s.ring with signal := false, gap := 0 } s) := hP.blind h {}
  unfold signalLost
  dsimp only
  split
  · exact hP.keeps_withEdges (hP.keeps_lockLost ht)
  · exact hP.blind ht {}
  · exact ht

/-! #### The banks and the Scene Store -/

theorem HeldInvariant.keeps_appendRecomputes (n : BankName) (l : List (Fin 16)) {s : State} (h : P s) :
    P (l.foldl (fun v j => appendRecompute v n j) s) :=
  hP.congr h (foldl_appendRecompute_frame l s) {}

/-- A bank written through a view: tuned where it is active, not held by the engine where it is pending (R126, R127). -/
theorem HeldInvariant.keeps_viewWritten {v : View} {b : Bank} {s : State} (h : P s)
    (hl : v = .active → Tuned (bankOf s (viewName s v)) b) (ho : v = .pending → engineReason s = false) :
    P (setBank s (viewName s v) b) := by
  cases v with
  | active => exact hP.keeps_tuned _ b s h (hl rfl)
  | pending => exact hP.keeps_pendingWritten b s h (ho rfl)

theorem HeldInvariant.keeps_decayCompletion {s : State} (h : P s) : P (decayCompletion s) := by
  unfold decayCompletion
  split
  · next e _ =>
    split
    · exact hP.keeps_pulseIf _ _ (hP.blind (hP.keeps_tuned e.bank _ s h (tuned_withDecay _ e)) {})
    · exact h
  · exact h

theorem HeldInvariant.keeps_decayTake {s : State} (h : P s) : P (decayTake s) := hP.congr h (decayTake_frame s) {}

theorem HeldInvariant.keeps_copyBank {s : State} (h : P s) (ho : engineReason s = false) : P (copyBank s) :=
  hP.keeps_appendRecomputes _ _ (hP.keeps_pendingWritten _ (dropRecomputes s (pendingName s)) (hP.blind h {}) ho)

/-- A recall replaces the pending bank where the engine does not hold it (R128, R163). -/
theorem HeldInvariant.keeps_recallEnd (n : Fin 16) {s : State} (h : P s) (ho : recallMayEnd s = true) : P (recallEnd n s) := by
  have hr : P (replacePending n s) :=
    hP.keeps_appendRecomputes _ _ (hP.keeps_pendingWritten _ s h (by simpa [recallMayEnd] using ho))
  have ht : P (recallReleased (pulse .storeDone (replacePending n s))) := by
    unfold recallReleased
    split <;> exact hP.blind hr {}
  unfold recallEnd
  dsimp only
  split
  · exact hP.keeps_startUpCommit ht
  · exact ht

theorem HeldInvariant.keeps_operationEnd {s : State} (h : P s) : P (operationEnd s) := by
  unfold operationEnd
  dsimp only
  split
  · exact hP.keeps_eraseEnd _ _ s h
  · exact hP.keeps_writeEnd _ _ s h
  · split
    · next ho => exact hP.keeps_recallEnd _ h ho
    · exact h
  · split
    · next ho => exact hP.keeps_recallEnd _ h ho
    · exact h
  · split
    · exact hP.keeps_rewriteEnd _ _ s h
    · exact hP.blind h {}
  · exact h

theorem HeldInvariant.keeps_endOperation {s : State} (h : P s) : P (endOperation s) :=
  hP.keeps_operationEnd (hP.blind h {})

theorem HeldInvariant.keeps_storeBoundary {s : State} (h : P s) : P (storeBoundary s) := by
  have hc : P (countDown s) := hP.blind h {}
  unfold storeBoundary
  dsimp only
  split
  · exact h
  · split
    · exact hP.keeps_operationEnd hc
    · exact hc

theorem HeldInvariant.keeps_releaseHeldRecall {s : State} (h : P s) : P (releaseHeldRecall s) := by
  unfold releaseHeldRecall
  split
  · exact hP.keeps_operationEnd (hP.blind h {})
  · exact h

theorem HeldInvariant.keeps_clearingEnd {s : State} (h : P s) : P (clearingEnd s) := by
  unfold clearingEnd clearingOff
  split
  · exact hP.keeps_releaseHeldRecall (hP.keeps_clearingComplete s h)
  · exact hP.keeps_releaseHeldRecall h

theorem HeldInvariant.keeps_beginRecall (n : Fin 16) {s : State} (h : P s) : P (beginRecall n s) := hP.blind h {}

theorem HeldInvariant.keeps_startUpRecall {s : State} (h : P s) : P (startUpRecall s) := by
  rcases startUpRecall_cases s with ⟨n, _, _, he⟩ | ⟨_, he⟩
  · exact hP.congr (hP.keeps_beginRecall n h) he {}
  · exact hP.congr h he {}

/-- Power-on scans the nonvolatile memory and begins a recall at most (R37, R157, R158). -/
theorem HeldInvariant.keeps_powerOn (straps : Nat) {s : State} (h : P s) : P (powerOn straps s) := by
  have scanned : ∀ base, P base → P (withEdges startUpRecall (powerOnScan base)) := fun base hb =>
    hP.keeps_withEdges (hP.keeps_startUpRecall (hP.keeps_pulseIf _ _ (hP.blind hb {})))
  unfold powerOn
  exact scanned _ (hP.blind (hP.keeps_restarted _ (hP.keeps_storeCutShort s h)) {})

/-! #### Requests -/

/-- A record is written where the lock of the pending bank lets it (R127, R185). -/
theorem HeldInvariant.keeps_writeTable {p : Pointer} {ws : List Word} {s t : State} {clamped : Bool} (h : P s)
    (ho : pendingTable p = true → engineReason s = false) (hw : writeTable p ws s = .ok (t, clamped)) : P t := by
  rcases writeTable_cases hw with ⟨table, hp, b, hb, ht⟩ | ht
  · refine hP.congr (hP.keeps_viewWritten h (fun hv => hb (beq_iff_eq.2 hv)) fun hv => ho ?_) ht {}
    rw [pendingTable, hp, hv]
  · exact hP.congr h ht {}

theorem HeldInvariant.keeps_putRecords (rs : List (List Word)) (done : Nat) (clamped : Bool) {s : State} (h : P s)
    (ho : pendingTable s.pointer = true → engineReason s = false) : P (putRecords rs done clamped s).1 := by
  induction rs generalizing done clamped s with
  | nil => exact h
  | cons r rs ih =>
    simp only [putRecords]
    split
    · exact h
    · split
      · exact h
      · next t _ hw =>
        obtain ⟨he, hp⟩ := writeTable_still hw
        refine ih _ _ (hP.blind (hP.keeps_writeTable h ho hw) {}) fun hv => ?_
        have hs : engineReason (advance t) = engineReason s := by simp only [engineReason, advance, he]
        exact hs.trans (ho (by simpa only [pendingTable, advance, hp] using hv))

theorem HeldInvariant.keeps_readTable {p : Pointer} {s t : State} {ws : List Word} (h : P s)
    (hr : readTable p s = .ok (t, ws)) : P t := by
  unfold readTable at hr
  split at hr
  case h_7 =>
    obtain ⟨rfl, -⟩ := Prod.mk.inj (Except.ok.inj hr)
    refine hP.blind h ?_
    unfold clearCounter
    repeat' split
    all_goals exact {}
  case h_8 =>
    unfold readCapture at hr
    split at hr
    · cases hr
    · cases hr
    all_goals
      split at hr
      · obtain ⟨rfl, -⟩ := Prod.mk.inj (Except.ok.inj hr)
        exact h
      · cases hr
  all_goals
    obtain ⟨rfl, -⟩ := Prod.mk.inj (Except.ok.inj hr)
    exact h

theorem HeldInvariant.keeps_takeRecords (n done : Nat) (ws : List Word) {s : State} (h : P s) :
    P (takeRecords n done ws s).1 := by
  induction n generalizing done ws s with
  | zero => exact h
  | succ n ih =>
    simp only [takeRecords]
    split
    · exact h
    · split
      · exact h
      · next hr => exact ih _ _ (hP.blind (hP.keeps_readTable h hr) {})

theorem HeldInvariant.keeps_warmReset {s : State} (h : P s) : P (warmReset s) := by
  rw [warmReset_eq]
  exact hP.keeps_engineWarmReset (hP.congr h (resetBlocks_eq s) {})

theorem HeldInvariant.keeps_commit (mode : CommitMode) (timing : Timing) {s : State} (h : P s) :
    P (commit mode timing s).1 := by
  unfold commit
  split
  · exact h
  · split
    · exact h
    · next hp =>
      split
      · exact hP.keeps_begunCommit mode h hp
      · split
        · exact hP.keeps_setEngine _ s h fun _ => .inr hp
        · exact h

theorem HeldInvariant.keeps_cancel {s : State} (h : P s) : P (cancel s).1 := by
  unfold cancel
  split
  case h_2 | h_3 => exact hP.keeps_cancelCommit h
  all_goals exact h

omit hP in
theorem accept_words (b : Burst) (s : State) : (accept b s).capture.words = s.capture.words := by
  unfold accept triggerCapture
  dsimp only
  split <;> split <;> rfl

omit hP in
/-- A start-record rewrite begun writes no word yet (R165). -/
theorem sameHeld_rewrite (sector : Option (Fin 16)) (r : StartRecord) (s : State) : SameHeld s (rewrite sector r s).1 := by
  unfold rewrite
  repeat' split
  all_goals exact {}

theorem HeldInvariant.keeps_requestOp (r : Request) {s : State} (h : P s) : P (requestOp r s).1 := by
  have still : ∀ t : State, SameHeld s t → P t := fun t ht => hP.blind h ht
  cases r with
  | put count payload =>
    simp only [requestOp, put]
    split
    · exact still _ {}
    · split
      · exact h
      · next ho =>
        refine hP.keeps_putRecords _ _ _ h fun hp => ?_
        rw [hp, Bool.true_and, Bool.not_eq_true, pendingLocked, Bool.or_eq_false_iff, Bool.or_eq_false_iff] at ho
        exact ho.1.1
  | take count =>
    simp only [requestOp, take]
    split
    · exact still _ {}
    · exact hP.keeps_takeRecords _ _ _ h
  | commit mode timing => exact hP.keeps_commit mode timing h
  | cancel => exact hP.keeps_cancel h
  | copy =>
    simp only [requestOp, copy]
    split
    · exact h
    · next ho =>
      rw [Bool.not_eq_true, pendingLocked, Bool.or_eq_false_iff, Bool.or_eq_false_iff] at ho
      exact hP.keeps_copyBank h ho.1.1
  | recallSector n =>
    simp only [requestOp, recallSector]
    split
    · exact h
    · split
      · exact h
      · split
        · exact h
        · split
          · exact h
          · exact hP.keeps_beginRecall _ h
  | protect n =>
    simp only [requestOp, protect]
    split
    · exact h
    · exact still _ (sameHeld_rewrite _ _ s)
  | unprotect n =>
    simp only [requestOp, unprotect]
    split
    · exact h
    · exact still _ (sameHeld_rewrite _ _ s)
  | setStart n =>
    simp only [requestOp, setStart]
    split
    · exact h
    · exact still _ (sameHeld_rewrite _ _ s)
  | fire kind target level length =>
    simp only [requestOp, fire]
    split
    · split
      · exact h
      · split
        · exact h
        · exact hP.congr h (accept_frame _ s) { words := accept_words _ s }
    · exact h
  | resetNode => exact hP.keeps_warmReset h
  | wherePointer => exact h
  | status => exact h
  | badCell kind => exact still _ {}
  | aim view table index step =>
    simp only [requestOp, aim]
    split <;> exact still _ {}
  | write n =>
    simp only [requestOp, write]
    repeat' split
    all_goals exact still _ {}
  | erase n =>
    simp only [requestOp, erase]
    repeat' split
    all_goals exact still _ {}
  | guardReset m =>
    simp only [requestOp, guardReset]
    split
    · exact h
    · exact hP.congr h (resetGuards_frame s) {}
    · exact hP.congr h (resetGuard_frame _ s) {}
  | stopGenerator =>
    simp only [requestOp, stopGenerator]
    split <;> exact still _ {}
  | arm kind number trigger length frame =>
    simp only [requestOp, arm]
    repeat' split
    all_goals exact still _ {}
  | stopCapture =>
    simp only [requestOp, stopCapture]
    repeat' split
    all_goals exact still _ {}
  | clearFlags mask =>
    simp only [requestOp, clearFlags]
    split <;> exact still _ {}

theorem HeldInvariant.keeps_handle (hd : Header) (r : Request) {s : State} (h : P s) : P (handle hd r s) := by
  unfold handle serve
  split
  · exact hP.blind (hP.keeps_edges (hP.keeps_requestOp r h)) {}
  · exact h

/-! #### The frame period -/

theorem HeldInvariant.keeps_captureWork (v : Sample) {s : State} (h : P s) : P (captureWork v s) := by
  unfold captureWork
  split
  · exact hP.keeps_recorded v s h
  · exact h

theorem HeldInvariant.keeps_backoffStep {s : State} (h : P s) : P (backoffStep s) := hP.congr h (backoffStep_frame s) {}

theorem HeldInvariant.keeps_evaluateAt (m : Fin 32) {s : State} (h : P s) : P (evaluateAt s m) :=
  hP.congr h (evaluateAt_frame s m) {}

theorem HeldInvariant.keeps_outputsBoundary (mute : Bool) {s : State} (h : P s) : P (outputsBoundary mute s) := by
  have guards : ∀ {t}, P t → P (evaluateGuards t) := fun {t} ht => hP.congr ht (evaluateGuards_frame t) {}
  have ramp : ∀ {t}, P t → P (outputsRamp mute t) := fun {t} ht => hP.congr ht (outputsRamp_frame mute t) {}
  have hb : P (withEdges backoffStep (blockPeaks s)) :=
    hP.keeps_withEdges (hP.keeps_backoffStep (hP.congr h (blockPeaks_frame s) {}))
  exact hP.keeps_withEdges (hP.keeps_engineBoundary mute (ramp (hP.keeps_withEdges (guards hb))))

theorem HeldInvariant.keeps_inputsAndCore (env : Env) (boundary : Bool) {s : State} (h : P s) :
    P (inputsAndCore env boundary s) := by
  have hw : ∀ {t}, P t → P (inputsWork env boundary t) := fun {t} ht => hP.congr ht (inputsWork_frame env boundary t) {}
  have cleared : ∀ {t}, P t → P (reverbClear t) := fun ht => hP.blind ht {}
  unfold inputsAndCore
  split
  · next hfirst =>
    rw [samplingState, if_pos hfirst]
    exact hw (hP.keeps_clearingEnd (cleared h))
  · unfold reverbWork
    split
    · exact cleared (hw h)
    · exact hP.keeps_reverbCompute _ _ _ (hw h)

theorem HeldInvariant.keeps_sampleWork (env : Env) (boundary : Bool) {s : State} (h : P s) : P (sampleWork env boundary s) := by
  have formed : ∀ q {t}, P t → P (outputsWork q s (generatorWork t)) := fun q t ht =>
    hP.congr (hP.blind ht {}) (outputsWork_frame q s (generatorWork t)) {}
  have handed : ∀ sent {t}, P t → P (handOff sent t) := fun sent t ht => hP.blind ht {}
  have ended : ∀ q m {t}, P t → P { quietWork q t with marks := m } := fun q m t ht => hP.blind ht {}
  unfold sampleWork
  dsimp only
  exact ended _ _ (hP.keeps_captureWork _ (handed _ (formed _ (hP.keeps_inputsAndCore env boundary h))))

theorem HeldInvariant.keeps_takeEvent (env : Env) {s : State} (h : P s) : P (takeEvent env s) := by
  unfold takeEvent
  split
  · exact hP.keeps_withEdges (hP.keeps_lockLost h)
  · split
    · split
      · unfold takeCell
        split
        · exact hP.keeps_handle _ _ h
        · split
          · exact hP.congr h (offerIdle_frame s) {}
          · exact h
      · exact h
    · exact h

theorem HeldInvariant.keeps_runTask (env : Env) (boundary : Bool) (k : Task) {s : State} (h : P s) :
    P (runTask env boundary k s) := by
  cases k with
  | relockEdge =>
    simp only [runTask, relockEdge]
    split
    · exact hP.blind h {}
    · exact h
  | commitStart => exact hP.keeps_withEdges (hP.keeps_commitStart env.slip h)
  | captureStart =>
    simp only [runTask, captureStart]
    split
    · exact hP.blind h {}
    · exact h
  | decay => exact hP.keeps_decayTake (hP.keeps_decayCompletion h)
  | ramps =>
    have core : ∀ {t}, P t → P (reverbRamp t) := fun {t} ht => hP.congr ht (reverbRamp_frame t)
      { position := by simp only [reverbRamp] }
    exact core (hP.congr h (inputsRamp_frame s) {})
  | outputs => exact hP.keeps_outputsBoundary _ h
  | store => exact hP.keeps_withEdges (hP.keeps_storeBoundary h)
  | work => exact hP.keeps_withEdges (hP.keeps_sampleWork env boundary h)
  | burstEnd =>
    have begun : ∀ {t}, P t → P (burstBegin t) := fun {t} ht => hP.congr ht (burstBegin_frame t) {}
    exact begun (hP.congr h (burstEnd_frame s) {})
  | captureEnd =>
    simp only [runTask, captureEnd]
    split
    · exact hP.blind h {}
    · exact h
  | clearingEnd => exact hP.keeps_withEdges (hP.keeps_clearingEnd h)
  | missingEdge => exact hP.congr h (missingEdge_frame s) {}
  | event => exact hP.keeps_takeEvent env h

theorem HeldInvariant.keeps_framePeriod (env : Env) {s : State} (h : P s) : P (framePeriod env s) :=
  keeps_foldl (fun _ k ht => hP.keeps_runTask env _ k ht) _ (beginPeriod s) (hP.congr h (beginPeriod_frame s) {})

theorem HeldInvariant.keeps_ringPeriod (c : FrameClass) (f : Frame) (env : Env) (r : Ring) {s : State} (h : P s) :
    P (ringPeriod c f env (setRing r s)) := by
  have sent : ∀ g {t}, P t → P (send g t) := fun g t ht => hP.blind ht {}
  exact sent _ (hP.keeps_framePeriod env (hP.blind h {}))

theorem HeldInvariant.keeps_lockedArrival (c : FrameClass) (f : Frame) {s : State} (h : P s) : P (lockedArrival c f s) := by
  cases c with
  | good =>
    simp only [lockedArrival, goodArrival, slipArrival]
    split
    · exact hP.keeps_ringPeriod _ f _ _ h
    · split <;> exact hP.keeps_ringPeriod _ f _ _ h
  | flagged => exact hP.keeps_ringPeriod _ f _ _ h
  | bad => exact hP.keeps_ringPeriod _ f _ _ h

theorem HeldInvariant.keeps_arrive (f : Frame) {s : State} (h : P s) : P (arrive f s) := by
  have hp : P (present (classify f) s) := hP.blind h {}
  unfold arrive
  dsimp only
  split
  · exact hP.blind hp {}
  · split
    · exact hP.keeps_ringPeriod _ f _ _ hp
    · exact hP.blind hp {}
  · exact hP.keeps_lockedArrival _ f hp

theorem HeldInvariant.keeps_oscillator {s : State} (h : P s) : P (oscillator s) := by
  have gap : ∀ t, P t → P (countGap t) := fun t ht => by
    unfold countGap
    split
    · split
      · exact hP.keeps_signalLost ht
      · exact hP.blind ht {}
    · exact ht
  unfold oscillator
  split
  · exact gap _ (hP.blind h {})
  · exact gap _ (hP.keeps_framePeriod _ (hP.blind h {}))

/-! #### Commands -/

theorem HeldInvariant.keeps_happens {due : Bool} {f : State → State} {s t : State} (h : P s)
    (he : happens due f s = .next t) (hf : due = true → P (f s)) : P t := by
  unfold happens at he
  split at he
  · next hd =>
    cases he
    exact hP.keeps_withEdges (hf (Bool.and_eq_true_iff.1 hd).2)
  · cases he
    exact h

/-- A command keeps the invariant: requests by what they do, events of the part where they are due. -/
theorem HeldInvariant.keeps_exec {c : Instr} {s t : State} (h : P s) (he : exec c s = .next t) : P t := by
  cases hr : c.request? with
  | some hd =>
    rw [exec_request hr] at he
    cases he
    exact hP.keeps_handle _ _ h
  | none =>
    cases c
    case powerOnReset straps =>
      cases he
      exact hP.keeps_powerOn straps h
    case resetPinAssert =>
      cases he
      split
      · exact hP.blind h {}
      · exact h
    case arrival f =>
      cases he
      split
      · exact h
      · split
        · exact hP.blind h {}
        · exact hP.keeps_arrive f h
    case oscillatorFramePeriod =>
      cases he
      split
      · exact hP.keeps_oscillator h
      · exact h
    case signalLoss =>
      cases he
      split
      · exact hP.keeps_signalLost h
      · exact h
    case powerLoss =>
      cases he
      split
      · exact hP.blind (hP.keeps_storeCutShort s h) {}
      · exact h
    case lockAcquired => exact hP.keeps_happens h he fun _ => hP.blind h {}
    case goodRunComplete => exact hP.keeps_happens h he fun _ => hP.blind h {}
    case lockLoss => exact hP.keeps_happens h he fun _ => hP.keeps_lockLost h
    case inputAdmission i => exact hP.keeps_happens h he fun _ => hP.blind h {}
    case inputDrop i => exact hP.keeps_happens h he fun _ => hP.blind h {}
    case burstEnd => exact hP.keeps_happens h he fun _ => hP.blind h {}
    case captureStart => exact hP.keeps_happens h he fun _ => hP.blind h {}
    case captureComplete v => exact hP.keeps_happens h he fun _ => hP.blind (hP.keeps_recorded v s h) {}
    case guardDetection m => exact hP.keeps_happens h he fun _ => hP.keeps_evaluateAt m h
    case guardHoldExpiry m => exact hP.keeps_happens h he fun _ => hP.keeps_evaluateAt m h
    case guardRecoveryStep m => exact hP.keeps_happens h he fun _ => hP.keeps_evaluateAt m h
    case backoffIntervalExpiry => exact hP.keeps_happens h he fun _ => hP.keeps_backoffStep h
    case decayTake => exact hP.keeps_happens h he fun _ => hP.keeps_decayTake h
    case decayCompletion => exact hP.keeps_happens h he fun _ => hP.keeps_decayCompletion h
    case commitExecution => exact hP.keeps_happens h he fun _ => hP.keeps_executeScheduled h
    case clearingStart => exact hP.keeps_happens h he fun hd => hP.keeps_clearingStart h hd
    case clearingComplete =>
      have hc : P (reverbClear s) := hP.blind h {}
      exact hP.keeps_happens h he fun _ => hP.keeps_releaseHeldRecall (hP.keeps_clearingComplete _ hc)
    case fadeInEnd => exact hP.keeps_happens h he fun _ => hP.keeps_fadeInEnd h
    case eraseCompletion => exact hP.keeps_happens h he fun _ => hP.keeps_endOperation h
    case writeCompletion => exact hP.keeps_happens h he fun _ => hP.keeps_endOperation h
    case recallCompletion => exact hP.keeps_happens h he fun _ => hP.keeps_endOperation h
    case startRecordRewriteEnd => exact hP.keeps_happens h he fun _ => hP.keeps_endOperation h
    all_goals cases hr

/-- Every step keeps an invariant of what the part holds. -/
theorem HeldInvariant.keeps_step {s t : State} (h : P s) (hs : step s = .next t) : P t := by
  unfold step at hs
  split at hs
  · cases hs
    exact h
  · next c rest _ => exact hP.keeps_exec (s := { s with pending := rest }) (hP.blind h {}) hs

end

end Sys2Proof.Machine
end

section
/-! The memories in their canonical form (R55, R174, R202): the pool as an invariant of the sound path, the words of the
scene store and of the capture as one of what the part holds. -/

namespace Sys2Proof.Machine

/-! ### The pool -/

/-- The pool in its canonical form, with no word beyond 262,143 (R55). -/
def PoolLegal (p : Cells Sample) : Prop := Cells.wf 0 p = true ∧ ∀ c ∈ p, c.1 < Config.poolWords

theorem poolLegal_poolWrite {p : Cells Sample} (h : PoolLegal p) (a : Nat) (x : Sample) : PoolLegal (poolWrite p a x) :=
  ⟨wf_poolWrite p h.1 a x, inside_poolWrite p h.2 a x⟩

theorem poolLegal_clear {p : Cells Sample} (h : PoolLegal p) (lo hi : Nat) : PoolLegal (Cells.clear p lo hi) :=
  ⟨wf_clear p h.1 lo hi, fun c hc => h.2 c (List.mem_filter.1 hc).1⟩

/-- The line writes of a frame period are pool writes (R66). -/
theorem poolLegal_reverbCompute (x : Vector Sample 24) (level : Nat) (s : State) (h : PoolLegal s.reverb.pool) :
    PoolLegal (reverbCompute x level s).reverb.pool := by
  rw [reverbCompute_pool]
  refine List.foldlRecOn (motive := PoolLegal) _ _ h fun p hp j _ => ?_
  split
  · exact poolLegal_poolWrite hp _ _
  · exact hp

theorem clearCounter_pool (i : Nat) (s : State) : (clearCounter i s).reverb.pool = s.reverb.pool := by
  unfold clearCounter
  repeat' split
  all_goals rfl

/-- A legal pool is an invariant of the sound path: line writes and clearings alone touch it. -/
theorem poolLegal_sound : SoundInvariant fun s => PoolLegal s.reverb.pool where
  blind h hst := hst.pool ▸ h
  reset := ⟨rfl, nofun⟩
  keeps_outputsWork q core s h := by rw [outputsWork_frame]; exact h
  keeps_evaluateAt s m h := by rw [evaluateAt_frame]; exact h
  keeps_blockPeaks _ h := h
  keeps_outputsRamp _ _ h := h
  keeps_profileWritten _ _ h := h
  keeps_outputsSwap _ h := h
  keeps_resetGuard _ _ h := h
  keeps_resetGuards _ h := h
  keeps_outputsLockLoss _ h := h
  keeps_outputsInstall _ h := h
  keeps_outputsWarmReset _ h := h
  keeps_clearCounter i s h := (clearCounter_pool i s).symm ▸ h
  keeps_reverbCompute := poolLegal_reverbCompute
  keeps_reverbClear _ h := poolLegal_clear h _ _
  keeps_handOff _ _ _ h := h

/-! ### The words of the capture and of the scene store -/

/-- The capture's words, the sectors and the start record in their canonical form (R174, R202). -/
structure WordsLegal (s : State) : Prop where
  capture : Cells.wf 0 s.capture.words = true
  sectors : ∀ n : Fin 16, Cells.wf erasedWord s.store.memory[n] = true
  record  : Cells.wf erasedWord s.store.startMemory = true

theorem WordsLegal.congr {s t : State} (h : WordsLegal s) (hc : t.capture.words = s.capture.words)
    (hm : t.store.memory = s.store.memory) (hs : t.store.startMemory = s.store.startMemory) : WordsLegal t :=
  ⟨hc ▸ h.capture, hm ▸ h.sectors, hs ▸ h.record⟩

theorem sectorsLegal_changeAt {memory : Vector (Cells Word) 16} (h : ∀ n : Fin 16, Cells.wf erasedWord memory[n] = true)
    (k : Fin 16) {f : Cells Word → Cells Word} (hf : ∀ m, Cells.wf erasedWord (f m) = true) (n : Fin 16) :
    Cells.wf erasedWord (changeAt memory k f)[n] = true := by
  rw [getElem_changeAt]
  split
  · exact hf _
  · exact h n

/-- What a cut leaves of the sectors: each is as it stood or written word by word (R157). -/
theorem sectorsLegal_cutMemory {s : State} (h : ∀ n : Fin 16, Cells.wf erasedWord s.store.memory[n] = true) (n : Fin 16) :
    Cells.wf erasedWord (cutMemory s)[n] = true := by
  have cut : ∀ {memory : Vector (Cells Word) 16} (k : Fin 16) (target : Cells Word),
      (∀ n : Fin 16, Cells.wf erasedWord memory[n] = true) →
      ∀ n : Fin 16, Cells.wf erasedWord (changeAt memory k (cutSector s.draws target))[n] = true := fun k target hm =>
    sectorsLegal_changeAt hm k fun m => wf_cutSector s.draws target m
  unfold cutMemory
  dsimp only
  split
  · refine cut _ _ (fun n => ?_) n
    split
    · exact cut _ _ h n
    · exact cut _ _ h n
    · exact h n
  · split
    · exact cut _ _ h n
    · exact cut _ _ h n
    · exact h n

theorem recordLegal_cutRecord {s : State} (h : Cells.wf erasedWord s.store.startMemory = true) :
    Cells.wf erasedWord (cutRecord s) = true := by
  unfold cutRecord
  split
  · split
    · exact h
    · exact wf_recordMemory _
    · exact wf_brokenRecord _
  · exact h

theorem wordsLegal_setSector {s : State} (h : WordsLegal s) (n : Fin 16) {m : Cells Word}
    (hm : Cells.wf erasedWord m = true) (st : SectorState) : WordsLegal (setSector n m st s) where
  capture := h.capture
  sectors := sectorsLegal_changeAt h.sectors n (f := fun _ => m) fun _ => hm
  record := h.record

theorem wordsLegal_held : HeldInvariant WordsLegal where
  blind h hst := h.congr hst.words hst.memory hst.startMemory
  keeps_restarted s h := ⟨rfl, h.sectors, h.record⟩
  keeps_storeCutShort s h := ⟨h.capture, sectorsLegal_cutMemory h.sectors, recordLegal_cutRecord h.record⟩
  keeps_eraseEnd ok n s h := by
    unfold eraseEnd
    split
    · exact (wordsLegal_setSector h n wf_nil .empty).congr rfl rfl rfl
    · exact (wordsLegal_setSector h n (wf_failedMemory s.draws) .failed).congr rfl rfl rfl
  keeps_writeEnd ok n s h := by
    unfold writeEnd
    split
    · exact (wordsLegal_setSector h n (wf_imageMemory s.store.image) .valid).congr rfl rfl rfl
    · exact (wordsLegal_setSector h n (wf_failedMemory s.draws) .failed).congr rfl rfl rfl
  keeps_rewriteEnd ok r s h := by
    unfold rewriteEnd
    split
    · exact ⟨h.capture, h.sectors, wf_recordMemory r⟩
    · exact ⟨h.capture, h.sectors, wf_writeList _ _ wf_nil _⟩
  keeps_recorded x s h := ⟨wf_write _ h.capture _ x, h.sectors, h.record⟩
  keeps_reverbCompute x level s h := by rw [reverbCompute_frame]; exact h.congr rfl rfl rfl
  keeps_clearingComplete s h := by rw [clearingComplete_frame]; exact h.congr rfl rfl rfl
  keeps_setEngine e s h _ := h.congr rfl rfl rfl
  keeps_smoothSwap s h _ _ := by rw [smoothSwap_frame]; exact h.congr rfl rfl rfl
  keeps_tuned n b s h _ := by cases n <;> exact h.congr rfl rfl rfl
  keeps_pendingWritten b s h _ := by cases pendingName s <;> exact h.congr rfl rfl rfl

/-- Settles O10: a legal pool is an invariant of the sound path, and legal words are one of what the part holds. -/
theorem memoriesStayLegal : Obligations.MemoriesStayLegal := fun s t h hs => by
  obtain ⟨pool, inside⟩ := poolLegal_sound.keeps_step ⟨h.pool, h.inside⟩ hs
  obtain ⟨capture, sectors, record⟩ := wordsLegal_held.keeps_step ⟨h.capture, h.sectors, h.record⟩ hs
  exact ⟨pool, inside, capture, sectors, record⟩

end Sys2Proof.Machine
end

section
/-! The scenes (R126 to R130): the set check reads the structure of a bank alone, so what tunes a bank keeps it passing;
and the active bank, the write positions and a held commit are an invariant of what the part holds. -/

namespace Sys2Proof.Machine

/-! ### The set check of a tuned bank -/

theorem setCheck_eq_none {b : Bank} : setCheck b = none ↔ (∀ j, lineFails b j = false) ∧
    (∀ n, injectionFails b n = false) ∧ (∀ m, outputFails b m = false) ∧ ∀ k, tapFails b k = false := by
  unfold setCheck
  simp only [Option.or_eq_none_iff]
  constructor
  · rintro ⟨hl, hi, ho, ht⟩
    exact ⟨firstFailure_eq_none hl, firstFailure_eq_none hi, firstFailure_eq_none ho, firstFailure_eq_none ht⟩
  · rintro ⟨hl, hi, ho, ht⟩
    exact ⟨firstFailure_none 2 hl, firstFailure_none 1 hi, firstFailure_none 4 ho, firstFailure_none 3 ht⟩

theorem Tuned.refl (b : Bank) : Tuned b b := {}

section

variable {b c : Bank} (h : Tuned b c)

include h

theorem Tuned.lineUsed (j : Fin 16) : lineUsed c j = lineUsed b j := by
  rw [Machine.lineUsed, Machine.lineUsed, h.length]

theorem Tuned.lineFails (j : Fin 16) : lineFails c j = lineFails b j := by
  simp only [Machine.lineFails, lineOutside, lineOverlaps, groupMixed, regionsOverlap, h.lineUsed, h.base, h.length, h.order]

theorem Tuned.injectionFails (n : Fin 128) : injectionFails c n = injectionFails b n := by
  simp only [Machine.injectionFails, h.lineUsed, h.input, h.injected]

/-- A run that is no longer lies where the longer one did. -/
theorem Tuned.inRun {m : Fin 32} {k : Nat} (hr : inRun c.outputs[m] k = true) : inRun b.outputs[m] k = true := by
  have hc := h.tapCount m
  simp only [Machine.inRun, h.firstTap, Bool.and_eq_true, decide_eq_true_eq] at hr ⊢
  omega

/-- Shorter runs overlap where the longer ones did. -/
theorem Tuned.runsOverlap {m k : Fin 32} (ho : runsOverlap c.outputs[m] c.outputs[k] = true) :
    runsOverlap b.outputs[m] b.outputs[k] = true := by
  have hm := h.tapCount m
  have hk := h.tapCount k
  simp only [Machine.runsOverlap, h.firstTap, Bool.and_eq_true, bne_iff_ne, decide_eq_true_eq] at ho ⊢
  omega

theorem Tuned.outputFails {m : Fin 32} (hf : outputFails c m = true) : outputFails b m = true := by
  have hm := h.tapCount m
  simp only [Machine.outputFails, Bool.or_eq_true, decide_eq_true_eq, List.any_eq_true, Bool.and_eq_true, h.firstTap,
    h.slot] at hf ⊢
  rcases hf with hf | ⟨k, hk, hlt, hf⟩
  · exact .inl (by omega)
  · exact .inr ⟨k, hk, hlt, hf.imp_left h.runsOverlap⟩

theorem Tuned.tapFails {k : Fin 512} (hf : tapFails c k = true) : tapFails b k = true := by
  simp only [Machine.tapFails, Bool.and_eq_true, List.any_eq_true, h.tapped, h.offset, h.lineUsed, h.length] at hf ⊢
  obtain ⟨⟨m, hm, hr⟩, ho⟩ := hf
  exact ⟨⟨m, hm, h.inRun hr⟩, ho⟩

/-- A tuned bank passes the set check where the bank did (R126, R129). -/
theorem Tuned.setCheck (hb : setCheck b = none) : setCheck c = none := by
  obtain ⟨hl, hi, ho, ht⟩ := setCheck_eq_none.1 hb
  refine setCheck_eq_none.2 ⟨fun j => (h.lineFails j).trans (hl j), fun n => (h.injectionFails n).trans (hi n), fun m => ?_,
    fun k => ?_⟩
  · exact Bool.eq_false_iff.2 fun hm => Bool.false_ne_true ((ho m).symm.trans (h.outputFails hm))
  · exact Bool.eq_false_iff.2 fun hk => Bool.false_ne_true ((ht k).symm.trans (h.tapFails hk))

end

/-! ### The banks by their roles -/

theorem bankOf_setBank_eq (s : State) (n m : BankName) (b : Bank) :
    bankOf (setBank s n b) m = if m = n then b else bankOf s m := by
  cases n <;> cases m <;> rfl

/-- Compatible banks have lines of the same lengths (R131). -/
theorem length_of_compatible {b c : Bank} (h : compatible b c = true) (j : Fin 16) : b.lines[j].length = c.lines[j].length := by
  simp only [compatible, Bool.and_eq_true, List.all_eq_true, beq_iff_eq] at h
  obtain ⟨⟨⟨⟨⟨-, -⟩, hl⟩, -⟩, -⟩, -⟩ := h
  exact (hl j (List.mem_finRange j)).1.2

/-- Scenes that pass do so after any change that tunes banks and takes up no commit. -/
theorem ScenesPass.tuned {s t : State} (h : ScenesPass s) (ha : t.active = s.active)
    (hb : ∀ n, Tuned (bankOf s n) (bankOf t n)) (hp : t.reverb.position = s.reverb.position)
    (hc : CommitHeld t → CommitHeld s ∨ setCheck (pendingBank s) = none) : ScenesPass t := by
  have active : Tuned (activeBank s) (activeBank t) := by
    rw [activeBank, activeBank, ha]
    exact hb _
  have pending : Tuned (pendingBank s) (pendingBank t) := by
    rw [pendingBank, pendingBank, pendingName, pendingName, ha]
    exact hb _
  refine ⟨active.setCheck h.active, fun j hj => ?_, fun he ho => ?_⟩
  · rw [active.length] at hj ⊢
    rw [hp]
    exact h.position j hj
  · exact pending.setCheck ((hc ⟨he, ho⟩).elim (fun hs => h.pending hs.1 hs.2) id)

theorem ScenesPass.blind {s t : State} (h : ScenesPass s) (hst : SameHeld s t) : ScenesPass t := by
  refine h.tuned hst.active (fun n => ?_) hst.position fun hc => .inl ?_
  · cases n with
    | a =>
      rw [show bankOf t .a = bankOf s .a from hst.bankA]
      exact .refl _
    | b =>
      rw [show bankOf t .b = bankOf s .b from hst.bankB]
      exact .refl _
  · unfold CommitHeld engineReason at hc ⊢
    rwa [hst.state, hst.operation] at hc

/-- A line's write position goes on within its line, or starts again (R58, R66). -/
theorem ScenesPass.reverbCompute {s : State} (h : ScenesPass s) (x : Vector Sample 24) (level : Nat) :
    ScenesPass (reverbCompute x level s) := by
  rw [reverbCompute_frame, reverbCompute_reverb]
  refine ⟨h.active, fun j hj => ?_, h.pending⟩
  have hj : (activeBank s).lines[j].length ≠ 0 := hj
  show (reverbComputed x level s).position[j] < (activeBank s).lines[j].length
  rw [reverbComputed, getElem_changeAll, if_pos ((lineUsed_iff _ j).2 hj)]
  split
  · next hn => exact hn
  · exact Nat.pos_of_ne_zero hj

/-- Write positions of 0 lie in every used line (R78). -/
theorem position_zero {b : Bank} {p : Vector Nat 16} (hp : p = Vector.replicate 16 0) (j : Fin 16)
    (hj : b.lines[j].length ≠ 0) : p[j] < b.lines[j].length := by
  rw [hp, Fin.getElem_fin, Vector.getElem_replicate]
  exact Nat.pos_of_ne_zero hj

/-- An engine that locks no bank holds no commit. -/
theorem scenesPass_released {s : State} (ha : setCheck (activeBank s) = none)
    (hp : ∀ j : Fin 16, (activeBank s).lines[j].length ≠ 0 → s.reverb.position[j] < (activeBank s).lines[j].length)
    (hr : engineReason s = false) : ScenesPass s :=
  ⟨ha, hp, fun he => absurd (hr.symm.trans he) Bool.false_ne_true⟩

/-- What an install makes active starts with every write position at 0, and the engine then holds no bank (R78, R144). -/
theorem scenesPass_installed {s t : State} (h : setCheck (activeBank s) = none)
    (hp : s.reverb.position = Vector.replicate 16 0)
    (ht : t = setEngine { s.engine with state := .fadeIn } (outputsInstall (reverbInstall (inputsInstall s)))) :
    ScenesPass t := by
  have active : activeBank t = activeBank s := by
    simp only [ht, setEngine, outputsInstall, reverbInstall, inputsInstall, activeBank, bankOf]
  have position : t.reverb.position = s.reverb.position := by
    simp only [ht, setEngine, outputsInstall, reverbInstall, inputsInstall]
  have released : engineReason t = false := by
    simp only [ht, setEngine, engineReason]
  exact scenesPass_released (by rw [active, h]) (position_zero (position.trans hp)) released

theorem ScenesPass.clearingComplete {s : State} (h : ScenesPass s) : ScenesPass (clearingComplete s) := by
  unfold Machine.clearingComplete
  dsimp only
  split
  · next hs =>
    unfold install
    split
    · next mode ho =>
      refine scenesPass_installed (s := swapBanks (endClearing s)) ?_ rfl rfl
      rw [activeBank_swapBanks]
      exact h.pending (by rw [engineReason, show s.engine.state = .clearing from hs]) ⟨mode, ho⟩
    · exact scenesPass_installed (s := endClearing s) h.active rfl rfl
    · exact scenesPass_installed (s := endClearing s) h.active rfl rfl
  · exact ⟨h.active, position_zero rfl, h.pending⟩

/-- A SMOOTH commit: the roles swapped, the engine STEADY, the outputs and the backoff fitted to the new bank (R139). -/
theorem smoothSwap_eq (s : State) : smoothSwap s = pulse .commitDone { s with
    active := s.active.other, engine := { s.engine with state := .steady, operation := .none, scheduled := none }
    outputs := (outputsSwap (swapBanks s)).outputs, backoff := (outputsSwap (swapBanks s)).backoff } := by
  rw [smoothSwap, steadyEngine, outputsSwap_frame]
  rfl

/-- A SMOOTH commit swaps banks of the same line lengths, so the write positions stay in their lines (R131, R139). -/
theorem ScenesPass.smoothSwap {s : State} (h : ScenesPass s) (hp : setCheck (pendingBank s) = none)
    (hc : compatible s.bankA s.bankB = true) : ScenesPass (smoothSwap s) := by
  have hl : ∀ j : Fin 16, (pendingBank s).lines[j].length = (activeBank s).lines[j].length := fun j => by
    have hab := length_of_compatible hc j
    cases ha : s.active <;> simp only [pendingBank, activeBank, pendingName, bankOf, BankName.other, ha, hab]
  have ha : activeBank (Machine.smoothSwap s) = pendingBank s := by
    rw [smoothSwap_eq, pulse_frame]
    simp only [activeBank, pendingBank, pendingName, bankOf]
  have position : (Machine.smoothSwap s).reverb.position = s.reverb.position := by
    rw [smoothSwap_eq, pulse_frame]
  have released : engineReason (Machine.smoothSwap s) = false := by
    rw [smoothSwap_eq, pulse_frame]
    rfl
  refine scenesPass_released (by rw [ha, hp]) (fun j hj => ?_) released
  rw [ha, hl] at hj
  rw [ha, hl, position]
  exact h.position j hj

/-- Scenes that pass are an invariant of what the part holds (R126 to R130). -/
theorem scenesPass_held : HeldInvariant ScenesPass where
  blind := ScenesPass.blind
  keeps_restarted s _ := scenesPass_reset.tuned rfl (fun _ => .refl _) rfl .inl
  keeps_storeCutShort s h := h.tuned rfl (fun _ => .refl _) rfl .inl
  keeps_eraseEnd ok n s h := by rw [eraseEnd_frame]; exact h.tuned rfl (fun _ => .refl _) rfl .inl
  keeps_writeEnd ok n s h := by rw [writeEnd_frame]; exact h.tuned rfl (fun _ => .refl _) rfl .inl
  keeps_rewriteEnd ok r s h := by rw [rewriteEnd_frame]; exact h.tuned rfl (fun _ => .refl _) rfl .inl
  keeps_recorded x s h := h.tuned rfl (fun _ => .refl _) rfl .inl
  keeps_reverbCompute x level s h := h.reverbCompute x level
  keeps_clearingComplete s h := h.clearingComplete
  keeps_setEngine e s h hc := h.tuned rfl (fun _ => .refl _) rfl hc
  keeps_smoothSwap s h hp hc := h.smoothSwap (hp.elim (fun hs => h.pending hs.1 hs.2) id) hc
  keeps_tuned n b s h ht := by
    refine h.tuned (setBank_active s n b) (fun m => ?_) (by rw [setBank_reverb]) fun hc => .inl ?_
    · rw [bankOf_setBank_eq]
      split
      · next hm => exact hm ▸ ht
      · exact .refl _
    · unfold CommitHeld engineReason at hc ⊢
      rwa [setBank_engine] at hc
  keeps_pendingWritten b s h ho := by
    refine ⟨?_, fun j hj => ?_, fun he => ?_⟩
    · rw [activeBank_setBank_pending]
      exact h.active
    · rw [activeBank_setBank_pending] at hj ⊢
      rw [setBank_reverb]
      exact h.position j hj
    · unfold engineReason at he ho
      rw [setBank_engine, ho] at he
      cases he

/-- Settles O13: whatever becomes active has passed the set check, and live writes tune a bank alone. The ranges of the
tables are not needed: a tap count that its clamp lowers leaves fewer taps to check. -/
theorem scenesStayChecked : Obligations.ScenesStayChecked := fun _ _ _ h hs => scenesPass_held.keeps_step h hs

end Sys2Proof.Machine
end

section
/-! A commit at its execution, the start of the clearing and the end of FADE_IN, each taken as a command (R135 to R145). -/

-- Each worker thread of the elaborator holds a stack of its own, so these proofs are checked one after another.
set_option Elab.async false

namespace Sys2Proof.Machine

/-- An operation's edges leave the flags it latches (R192). -/
theorem latched_withEdges {f : State → State} {s : State} {k : NoticeKind} (h : latched (f s) k = true) :
    latched (withEdges f s) k = true :=
  ((reported_edges s (f s)).flags k).2 (.inl h)

/-- A level that an operation moves, and that does not wait, latches its flag (R192). -/
theorem latched_of_moves {f : State → State} {s : State} {k : NoticeKind} (hk : k ∈ levelKinds) (h : Moves s (f s) k) :
    latched (withEdges f s) k = true :=
  ((reported_edges s (f s)).flags k).2 (.inr ⟨hk, h⟩)

/-- A pulse latches its flag (R192). -/
theorem latched_pulse (k : NoticeKind) (s : State) : latched (pulse k s) k = true :=
  ((reported_report k .none s).flags k).2 (.inr rfl)

/-- SCENE_BUSY moves where the engine returns to STEADY (R192). -/
theorem moves_sceneBusy {old new : State} (h : old.engine.state ≠ .steady) (hn : new.engine.state = .steady) :
    Moves old new .sceneBusy := by
  refine ⟨rfl, ?_⟩
  show (old.engine.state != .steady) ≠ (new.engine.state != .steady)
  rw [hn, bne_iff_ne.2 h]
  decide

/-- The outputs a SMOOTH commit leaves: each guard brought within its profile of the new bank (R117). -/
theorem outputsSwap_outputs (s : State) (m : Fin 32) : (outputsSwap (swapBanks s)).outputs[m] = { s.outputs[m] with
    guard := match profileOf (pendingBank s) m with
      | some p => fitGuard p s.outputs[m].guard
      | none => watchGuard } := by
  simp only [outputsSwap, getElem_changeAll, activeBank_swapBanks]
  cases profileOf (pendingBank s) m <;> rfl

theorem outputsSwap_backoff (s : State) :
    (outputsSwap (swapBanks s)).backoff = fitBackoff (pendingBank s).globals s.backoff := by
  simp only [outputsSwap, activeBank_swapBanks]
  rfl

/-- An engine that goes on outside STEADY moves no level (R192). -/
theorem withEdges_of_busy {f : State → State} {s : State} (hs : s.engine.state ≠ .steady) (hn : (f s).engine.state ≠ .steady)
    (hf : f s = { s with engine := (f s).engine, gen := (f s).gen, reverb := (f s).reverb, marks := (f s).marks }) :
    withEdges f s = f s := by
  refine withEdges_of_still fun k _ => ?_
  by_cases hk : k = .sceneBusy
  · subst hk
    show ((f s).engine.state != .steady) = (s.engine.state != .steady)
    rw [bne_iff_ne.2 hs, bne_iff_ne.2 hn]
  · rw [hf]
    cases k with
    | sceneBusy => exact absurd rfl hk
    | _ => rfl

/-- COMMIT_EXECUTION executes the commit that is scheduled (R135). -/
theorem exec_commitExecution {mode : CommitMode} {s : State} (hw : Works s) (hs : s.engine.state = .scheduled)
    (ho : s.engine.operation = .commit mode) : exec .commitExecution s = .next (withEdges (execute mode) s) := by
  have he : executeScheduled s = execute mode s := by
    unfold executeScheduled
    rw [hs, ho]
  have hd : exec .commitExecution s = .next (withEdges executeScheduled s) := happens_due hw (beq_iff_eq.2 hs)
  rw [hd, withEdges, he, withEdges]

section

variable {mode : CommitMode} {s : State} (hs : s.engine.state = .scheduled)

/-- What a SMOOTH commit writes beside its notices (R139). -/
theorem withEdges_execute_smooth (hm : mode = .auto ∧ compatible s.bankA s.bankB = true) :
    withEdges (execute mode) s = { s with
      active := s.active.other, engine := { s.engine with state := .steady, operation := .none, scheduled := none }
      outputs := (outputsSwap (swapBanks s)).outputs, backoff := (outputsSwap (swapBanks s)).backoff
      notices := (withEdges (execute mode) s).notices } := by
  rw [withEdges_frame, execute, if_pos hm, smoothSwap_eq, pulse_frame]

/-- A SMOOTH commit is done (R139). -/
theorem commitDone_execute_smooth (hm : mode = .auto ∧ compatible s.bankA s.bankB = true) :
    latched (withEdges (execute mode) s) .commitDone = true := by
  refine latched_withEdges ?_
  rw [execute, if_pos hm, smoothSwap_eq]
  exact latched_pulse _ _

include hs

/-- A SMOOTH commit ends the engine's operation (R139). -/
theorem sceneBusy_execute_smooth (hm : mode = .auto ∧ compatible s.bankA s.bankB = true) :
    latched (withEdges (execute mode) s) .sceneBusy = true := by
  refine latched_of_moves (by decide) (moves_sceneBusy (by simp [hs]) ?_)
  rw [execute, if_pos hm, smoothSwap_eq, pulse_frame]

/-- A CUT begins its FADE_OUT and stops a running burst (R140). -/
theorem withEdges_execute_cut (hm : ¬ (mode = .auto ∧ compatible s.bankA s.bankB = true)) :
    withEdges (execute mode) s = { s with
      engine := { s.engine with state := .fadeOut, scheduled := none }
      gen := { s.gen with running := false, remaining := 0, first := false, next := none } } := by
  have he : execute mode s = cutFadeOut s := if_neg hm
  have busy : (cutFadeOut s).engine.state ≠ .steady := (by decide : EngineState.fadeOut ≠ .steady)
  rw [withEdges_of_busy (by simp [hs]) (by rwa [he]) (by rw [he]; rfl), he]
  rfl

end

theorem fadeInEnd_eq (s : State) : fadeInEnd s = { s with
    engine := { s.engine with state := .steady, operation := .none, owed := false }, notices := (fadeInEnd s).notices } := by
  unfold fadeInEnd
  rw [pulseIf_frame]
  rfl

/-- A commit, or a reset that took one over, reports itself done at the end of FADE_IN (R145, R153). -/
theorem latched_fadeInEnd {s : State} (h : commitOwed s = true) : latched (fadeInEnd s) .commitDone = true := by
  rw [fadeInEnd, h]
  exact latched_pulse _ _

/-- Settles O42: each command is due, and what its operation writes and reports stands in the lemmas above. -/
theorem commitExecutesAndEnds : Obligations.CommitExecutesAndEnds := by
  refine ⟨fun mode s hw hs ho => ⟨fun hm => ?_, fun hm => ?_⟩, fun s hw => ⟨fun hs hc hq => ?_, fun hs hc => ?_⟩⟩
  · have swapped := withEdges_execute_smooth hm
    have done := commitDone_execute_smooth hm
    have free := sceneBusy_execute_smooth hs hm
    refine ⟨_, exec_commitExecution hw hs ho, ?_⟩
    generalize withEdges (execute mode) s = t at swapped done free ⊢
    have outputs : t.outputs = (outputsSwap (swapBanks s)).outputs := by rw [swapped]
    have backoff : t.backoff = (outputsSwap (swapBanks s)).backoff := by rw [swapped]
    refine ⟨by rw [swapped], by rw [swapped], done, free, fun m => ?_, backoff.trans (outputsSwap_backoff s), by rw [swapped]⟩
    rw [outputs, outputsSwap_outputs]
    cases profileOf (pendingBank s) m <;> rfl
  · rw [exec_commitExecution hw hs ho, withEdges_execute_cut hs hm]
  · have due : clearingDue s = true := by
      rw [clearingDue, (allSilent_iff s).2 hc, hs, hq]
      rfl
    have taken : exec .clearingStart s = .next (withEdges clearingStart s) := happens_due hw due
    rw [taken, withEdges_of_busy (by simp [hs]) (by decide : EngineState.clearing ≠ .steady) rfl]
    rfl
  · have due : fadeInOver (lockMute s) s = true := by
      rw [fadeInOver, (allAtTarget_iff (lockMute s) s).2 hc, hs]
      rfl
    have free : Moves s (fadeInEnd s) .sceneBusy := moves_sceneBusy (by simp [hs]) (by rw [fadeInEnd_eq])
    refine ⟨_, happens_due hw due, latched_of_moves (by decide) free, fun howed => ?_, ?_⟩
    · refine latched_withEdges (latched_fadeInEnd ?_)
      rcases howed with ⟨mode, ho⟩ | ⟨ho, how⟩
      · rw [commitOwed, ho]
      · rw [commitOwed, ho, how]
    · unfold SameButNotices
      rw [withEdges_frame, fadeInEnd_eq]

end Sys2Proof.Machine
end
